-- ==== Sys2Proof/Word.lean ====
section
/-! DEFINITION. The word types of PFDE: a byte of IBUF and a 32-bit word of REG and OBUF (spec/00_scope.md R11). -/

namespace Sys2Proof

/-- `u8` (R11): one byte of IBUF. -/
abbrev Byte := BitVec 8

/-- `u32` and `Id` (R11, W = 32): one word of OBUF or of a register. -/
abbrev Word := BitVec 32

/-- `ceil_div(x, y)` (R11). -/
abbrev ceilDiv (x y : Nat) : Nat := (x + y - 1) / y

end Sys2Proof
end

