-- ==== Sys2Proof/Config.lean ====
section
/-! DEFINITION. The implementation parameters of spec/00_scope.md R8, and the free values: what the spec leaves
open is an opaque constant, so that no proof can see it. -/

namespace Sys2Proof

/-- BLOCK_SIZE (R8, decision D4): 128 or 256, a synthesis-time choice. -/
inductive BlockSize where
  | bs128
  | bs256
  deriving DecidableEq, Repr

/-- CONTIG_MODE (R8, R151): the contiguous reader's window. -/
inductive ContigMode where
  | exact
  | window32
  deriving DecidableEq, Repr

/-- VB_EMPTY_SELECTOR (R8, R180): an empty PFOR_VB exception area followed by 0xFF. -/
inductive VbEmptySelector where
  | faultOnFf
  | noRead
  | consume
  deriving DecidableEq, Repr

/-- The parameters of R8 that a rule reads. They are fixed for a given engine: no step changes them (R31). -/
structure Params where
  blockSize : BlockSize
  contigMode : ContigMode
  vbEmpty : VbEmptySelector
  /-- IN_CAP, bytes of IBUF. -/
  inCap : Nat
  /-- OUT_CAP, words of OBUF. -/
  outCap : Nat
  /-- REG_BASE, the platform address of register offset 0 (R33, R72). Any value is legal. -/
  regBase : Nat
  /-- IBUF_BASE, the platform address of IBUF byte 0 (R72). Any value is legal. -/
  ibufBase : Nat
  /-- OBUF_BASE, the platform address of OBUF word 0 (R72). Any value is legal. -/
  obufBase : Nat
  deriving DecidableEq, Repr

/-- BS as a number. -/
def BlockSize.toNat : BlockSize → Nat
  | .bs128 => 128
  | .bs256 => 256

/-- BS (R8). -/
def Params.bs (p : Params) : Nat := p.blockSize.toNat

/-- The legal values of R8 that the types do not already force; the three bases are "any". -/
def Params.legal (p : Params) : Bool :=
  decide (1 ≤ p.inCap) && decide (p.inCap < 2 ^ 32) && decide (1 ≤ p.outCap) && decide (p.outCap < 2 ^ 32)

/-- OPEN (R8, D5): the number of bytes of IBUF is drawn from this free constant. Log 5. -/
opaque Config.inCapSeed : Nat

/-- OPEN (R8, D5): the number of words of OBUF is drawn from this free constant. Log 5. -/
opaque Config.outCapSeed : Nat

/-- IN_CAP, any value in 1 … 2^32 − 1 (R8). -/
def Config.inCap : Nat := Config.inCapSeed % 4294967295 + 1

/-- OUT_CAP, any value in 1 … 2^32 − 1 (R8). -/
def Config.outCap : Nat := Config.outCapSeed % 4294967295 + 1

/-- OPEN (R8, D11): REG_BASE. Log 5. -/
opaque Config.regBase : Nat

/-- OPEN (R8, D11): IBUF_BASE. Log 5. -/
opaque Config.ibufBase : Nat

/-- OPEN (R8, D11): OBUF_BASE. Log 5. -/
opaque Config.obufBase : Nat

/-- The engine of State.reset: the defaults of R8, its capacities and bases free. -/
def Params.default : Params where
  blockSize := .bs128
  contigMode := .exact
  vbEmpty := .faultOnFf
  inCap := Config.inCap
  outCap := Config.outCap
  regBase := Config.regBase
  ibufBase := Config.ibufBase
  obufBase := Config.obufBase

/-- Any word: an unspecified register or OBUF value (R62, R63, R91, R229, R253). Log 6. -/
opaque Config.freeWord : Nat → Word

/-- Any byte: a host read of an IBUF byte never written (R62). Log 6. -/
opaque Config.freeByte : Nat → Byte

/-- The completion latency of a command (R262, D24): any finite number. Log 2. -/
opaque Config.latency : Nat → Nat

/-- Whether a command proceeds one stream item a step (R52). Nothing observable depends on it. Log 1. -/
opaque Config.itemwise : Nat → Bool

end Sys2Proof
end

