-- ==== Sys2Proof/Syntax.lean ====
section
/-! DEFINITION. The instructions of PFDE: one constructor for each mnemonic of spec/opcode_table.json (the rows of one
mnemonic are pieces of one range). A constructor's operands are the bits its encoding leaves free. Also the stream
assembler's items (R118) and the host's statements (R119). -/

namespace Sys2Proof

/-- HDR.TYPE (R104). -/
inductive BlockType where
  | for_
  | pforVb
  | pforBitmap
  | constant
  deriving DecidableEq, Repr

/-- The formats a word or a stream byte is read in (R100). A byte has no format of its own: the engine knows which one
comes next (R115, R216). -/
inductive Format where
  /-- CMD word (R101). -/
  | cmd
  /-- Block header byte (R104). `useIL` is R171's: IL = 1 and num = BS. -/
  | hdr (useIL : Bool)
  /-- BEXC byte of a PFOR_BITMAP block (R107). -/
  | bexc
  /-- First byte of a baseval scalar (R110). -/
  | basevalByte
  /-- First byte of a vb scalar (R111). -/
  | vbByte
  /-- First byte of a nonempty PFOR_VB exception area (R109). -/
  | excArea
  deriving DecidableEq, Repr

/-- The instructions. Commands (R102) first, then the stream items. -/
inductive Instr where
  /-- LDLE (R131). `il` is the IL bit, which it ignores (R101); likewise for the next five. -/
  | ldle (il : Bool)
  /-- BASEVAL (R133). -/
  | baseval (il : Bool)
  /-- VB (R135). -/
  | vb (il : Bool)
  /-- UNPACK (R158). -/
  | unpack (il : Bool)
  /-- UNPACK_IL (R159). -/
  | unpackIl (il : Bool)
  /-- SCAN (R182). -/
  | scan (il : Bool)
  /-- BLOCK with IL = 0 (R183). -/
  | block
  /-- BLOCK with IL = 1 (R183). -/
  | blockIl
  /-- SEQ with IL = 0 (R210). -/
  | seq
  /-- SEQ with IL = 1 (R210). -/
  | seqIl
  /-- ILLEGAL_CMD (R226): RSV = 0, OP 0x0. -/
  | illegalOp0 (il : Bool)
  /-- ILLEGAL_CMD: RSV = 0, OP 0x9. -/
  | illegalOp9 (il : Bool)
  /-- ILLEGAL_CMD: RSV = 0, OP 0xA–0xB. -/
  | illegalOpAB (il : Bool) (lo : BitVec 1)
  /-- ILLEGAL_CMD: RSV = 0, OP 0xC–0xF. -/
  | illegalOpCF (il : Bool) (lo : BitVec 2)
  /-- ILLEGAL_CMD: bit 5 is the lowest RSV bit set. -/
  | illegalRsv5 (hi : BitVec 26) (low : BitVec 5)
  /-- ILLEGAL_CMD: bit 6 is the lowest RSV bit set. -/
  | illegalRsv6 (hi : BitVec 25) (low : BitVec 5)
  /-- ILLEGAL_CMD: bit 7 is the lowest RSV bit set. -/
  | illegalRsv7 (hi : BitVec 24) (low : BitVec 5)
  /-- ILLEGAL_CMD: bit 8 is the lowest RSV bit set. -/
  | illegalRsv8 (hi : BitVec 23) (low : BitVec 5)
  /-- ILLEGAL_CMD: bit 9 is the lowest RSV bit set. -/
  | illegalRsv9 (hi : BitVec 22) (low : BitVec 5)
  /-- ILLEGAL_CMD: bit 10 is the lowest RSV bit set. -/
  | illegalRsv10 (hi : BitVec 21) (low : BitVec 5)
  /-- ILLEGAL_CMD: bit 11 is the lowest RSV bit set. -/
  | illegalRsv11 (hi : BitVec 20) (low : BitVec 5)
  /-- ILLEGAL_CMD: bit 12 is the lowest RSV bit set. -/
  | illegalRsv12 (hi : BitVec 19) (low : BitVec 5)
  /-- ILLEGAL_CMD: bit 13 is the lowest RSV bit set. -/
  | illegalRsv13 (hi : BitVec 18) (low : BitVec 5)
  /-- ILLEGAL_CMD: bit 14 is the lowest RSV bit set. -/
  | illegalRsv14 (hi : BitVec 17) (low : BitVec 5)
  /-- ILLEGAL_CMD: bit 15 is the lowest RSV bit set. -/
  | illegalRsv15 (hi : BitVec 16) (low : BitVec 5)
  /-- ILLEGAL_CMD: bit 16 is the lowest RSV bit set. -/
  | illegalRsv16 (hi : BitVec 15) (low : BitVec 5)
  /-- ILLEGAL_CMD: bit 17 is the lowest RSV bit set. -/
  | illegalRsv17 (hi : BitVec 14) (low : BitVec 5)
  /-- ILLEGAL_CMD: bit 18 is the lowest RSV bit set. -/
  | illegalRsv18 (hi : BitVec 13) (low : BitVec 5)
  /-- ILLEGAL_CMD: bit 19 is the lowest RSV bit set. -/
  | illegalRsv19 (hi : BitVec 12) (low : BitVec 5)
  /-- ILLEGAL_CMD: bit 20 is the lowest RSV bit set. -/
  | illegalRsv20 (hi : BitVec 11) (low : BitVec 5)
  /-- ILLEGAL_CMD: bit 21 is the lowest RSV bit set. -/
  | illegalRsv21 (hi : BitVec 10) (low : BitVec 5)
  /-- ILLEGAL_CMD: bit 22 is the lowest RSV bit set. -/
  | illegalRsv22 (hi : BitVec 9) (low : BitVec 5)
  /-- ILLEGAL_CMD: bit 23 is the lowest RSV bit set. -/
  | illegalRsv23 (hi : BitVec 8) (low : BitVec 5)
  /-- ILLEGAL_CMD: bit 24 is the lowest RSV bit set. -/
  | illegalRsv24 (hi : BitVec 7) (low : BitVec 5)
  /-- ILLEGAL_CMD: bit 25 is the lowest RSV bit set. -/
  | illegalRsv25 (hi : BitVec 6) (low : BitVec 5)
  /-- ILLEGAL_CMD: bit 26 is the lowest RSV bit set. -/
  | illegalRsv26 (hi : BitVec 5) (low : BitVec 5)
  /-- ILLEGAL_CMD: bit 27 is the lowest RSV bit set. -/
  | illegalRsv27 (hi : BitVec 4) (low : BitVec 5)
  /-- ILLEGAL_CMD: bit 28 is the lowest RSV bit set. -/
  | illegalRsv28 (hi : BitVec 3) (low : BitVec 5)
  /-- ILLEGAL_CMD: bit 29 is the lowest RSV bit set. -/
  | illegalRsv29 (hi : BitVec 2) (low : BitVec 5)
  /-- ILLEGAL_CMD: bit 30 is the lowest RSV bit set. -/
  | illegalRsv30 (hi : BitVec 1) (low : BitVec 5)
  /-- ILLEGAL_CMD: bit 31 is the lowest RSV bit set. -/
  | illegalRsv31 (low : BitVec 5)
  /-- FOR header (R174), b 0–31. -/
  | for_ (b : BitVec 5)
  /-- FOR header, b = 32. -/
  | for32
  /-- PFOR_VB header (R178), b 0–31. -/
  | pforVb (b : BitVec 5)
  /-- PFOR_VB header, b = 32. -/
  | pforVb32
  /-- PFOR_BITMAP header (R176), b 0–31. -/
  | pforBitmap (b : BitVec 5)
  /-- PFOR_BITMAP header, b = 32. -/
  | pforBitmap32
  /-- CONSTANT header (R173), b 0–31. -/
  | constant (b : BitVec 5)
  /-- CONSTANT header, b = 32. -/
  | constant32
  /-- FOR header of the interleaved flavour (R175), b 0–31. -/
  | forIl (b : BitVec 5)
  /-- FOR header of the interleaved flavour, b = 32. -/
  | forIl32
  /-- PFOR_VB header of the interleaved flavour (R179), b 0–31. -/
  | pforVbIl (b : BitVec 5)
  /-- PFOR_VB header of the interleaved flavour, b = 32. -/
  | pforVbIl32
  /-- PFOR_BITMAP header of the interleaved flavour (R177), b 0–31. -/
  | pforBitmapIl (b : BitVec 5)
  /-- PFOR_BITMAP header of the interleaved flavour, b = 32. -/
  | pforBitmapIl32
  /-- A header of any type with b 33–63 (R172). -/
  | badWidth (ty : BlockType) (b : BitVec 6)
  /-- BEXC byte (R176), b_exc 0–31. -/
  | bexc (e : BitVec 5)
  /-- BEXC byte, b_exc = 32. -/
  | bexc32
  /-- BEXC byte with b_exc 33–255 (R176). -/
  | badWidthExc (e : Byte)
  /-- 1-byte baseval (R132): the value. -/
  | baseval1 (v : BitVec 7)
  /-- 2-byte baseval: the value's bits 13:8. -/
  | baseval2 (vHi : BitVec 6)
  /-- 3-byte baseval: the value's bits 20:16. -/
  | baseval3 (vHi : BitVec 5)
  /-- Reserved baseval first byte 0xE0–0xFF (R223). -/
  | basevalRsv (low : BitVec 5)
  /-- 1-byte vb (R134), first byte 0x00–0xB0. -/
  | vb1 (x : Byte)
  /-- 2-byte vb, first byte 0xB1–0xF0. -/
  | vb2 (x : Byte)
  /-- 3-byte vb, first byte 0xF1–0xF8. -/
  | vb3 (x : Byte)
  /-- 4-byte vb, first byte 0xF9. -/
  | vb4
  /-- 5-byte vb, first byte 0xFA. -/
  | vb5
  /-- Reserved vb first byte 0xFB–0xFF (R223). -/
  | vbRsv (x : Byte)
  /-- Escape form of the exception area, first byte 0xFF (R180). -/
  | excEsc
  /-- Vb form of the exception area, first byte 0x00–0xFE (R180). -/
  | excVb (x : Byte)
  deriving DecidableEq, Repr

/-- The three host address spaces (R72). A host address is a platform address: a space's base (`Params.regBase`,
`ibufBase`, `obufBase`) plus what the space counts in. -/
inductive Space where
  /-- Registers: REG_BASE plus the byte offset (R33). -/
  | reg
  /-- IBUF: IBUF_BASE plus the byte address (R70). -/
  | ibuf
  /-- OBUF: OBUF_BASE plus the word index (R71; R73 gives it no byte view). Log 9. -/
  | obuf
  deriving DecidableEq, Repr

/-- One move of the host or of the platform (R84, R119, R251). -/
inductive HostOp where
  /-- Read `width` bytes at the platform address `addr`. -/
  | read (sp : Space) (addr width : Nat)
  /-- Write `width` bytes at the platform address `addr`. -/
  | write (sp : Space) (addr width : Nat) (v : Word)
  /-- `wait` (R119): read STATUS until DONE = 1. -/
  | wait
  /-- Wait until `irq` is asserted (R258). -/
  | waitIrq
  /-- Power-on reset, driven by the platform (R251). -/
  | powerOn
  deriving DecidableEq, Repr

/-- The registers of R33, each under its own name. -/
inductive Reg where
  | config
  | ctrl
  | cmd
  | status
  | cur
  | inLen
  | count
  | outIdx
  | prev
  | bw
  | resultLo
  | resultHi
  | errOff
  | consumed
  /-- Offsets 0x38–0xFF (R58). -/
  | reserved
  deriving DecidableEq, Repr

/-- The items of the stream assembler (R118). -/
inductive StreamItem where
  /-- Shortest BASEVAL form. -/
  | baseval (v : Nat)
  /-- Forced 2-byte form. -/
  | baseval2 (v : Nat)
  /-- Forced 3-byte form. -/
  | baseval3 (v : Nat)
  /-- Shortest VB form. -/
  | vb (v : Nat)
  /-- Forced 249-prefixed form. -/
  | vb4 (v : Nat)
  /-- Forced 250-prefixed form. -/
  | vb5 (v : Nat)
  /-- Header byte. -/
  | hdr (ty : BlockType) (b : Nat)
  /-- Contiguous packed region. -/
  | packed (b : Nat) (vs : List Nat)
  /-- Interleaved packed region; it holds one field for each value given (BS of them in a block). -/
  | packedIl (b : Nat) (vs : List Nat)
  /-- `v` as `k` little-endian bytes. -/
  | le (k v : Nat)
  /-- Raw bytes. -/
  | bytes (vs : List Byte)
  deriving DecidableEq, Repr

end Sys2Proof
end

