-- ==== Sys2Proof/WellFormed.lean ====
section
/-! DEFINITION. Which instructions, and which items of the stream assembler, have an encoding: the checks the types do
not already make. -/

namespace Sys2Proof

/-- The operand ranges of spec/opcode_table.json that are narrower than their types. -/
def Instr.wf : Instr → Bool
  | .ldle _ | .baseval _ | .vb _ | .unpack _ | .unpackIl _ | .scan _ | .block | .blockIl | .seq
    | .seqIl | .illegalOp0 _ | .illegalOp9 _ | .illegalOpAB _ _ | .illegalOpCF _ _ => true
  | .illegalRsv5 _ _ | .illegalRsv6 _ _ | .illegalRsv7 _ _ | .illegalRsv8 _ _ | .illegalRsv9 _ _
    | .illegalRsv10 _ _ | .illegalRsv11 _ _ | .illegalRsv12 _ _ | .illegalRsv13 _ _
    | .illegalRsv14 _ _ | .illegalRsv15 _ _ | .illegalRsv16 _ _ | .illegalRsv17 _ _
    | .illegalRsv18 _ _ | .illegalRsv19 _ _ | .illegalRsv20 _ _ | .illegalRsv21 _ _
    | .illegalRsv22 _ _ | .illegalRsv23 _ _ | .illegalRsv24 _ _ | .illegalRsv25 _ _
    | .illegalRsv26 _ _ | .illegalRsv27 _ _ | .illegalRsv28 _ _ | .illegalRsv29 _ _
    | .illegalRsv30 _ _ | .illegalRsv31 _ => true
  | .for_ _ | .for32 | .pforVb _ | .pforVb32 | .pforBitmap _ | .pforBitmap32 | .constant _
    | .constant32 => true
  | .forIl _ | .forIl32 | .pforVbIl _ | .pforVbIl32 | .pforBitmapIl _ | .pforBitmapIl32 => true
  | .badWidth _ b => decide (33 ≤ b.toNat)
  | .bexc _ | .bexc32 => true
  | .badWidthExc e => decide (33 ≤ e.toNat)
  | .baseval1 _ | .baseval2 _ | .baseval3 _ | .basevalRsv _ => true
  | .vb1 x => decide (x.toNat ≤ 176)
  | .vb2 x => decide (177 ≤ x.toNat) && decide (x.toNat ≤ 240)
  | .vb3 x => decide (241 ≤ x.toNat) && decide (x.toNat ≤ 248)
  | .vb4 | .vb5 => true
  | .vbRsv x => decide (251 ≤ x.toNat)
  | .excEsc => true
  | .excVb x => decide (x.toNat ≤ 254)

/-- The ranges R110, R111, R104 and R118 give the assembler's operands. -/
def StreamItem.wf : StreamItem → Bool
  | .baseval v => decide (v < 2 ^ 21)
  | .baseval2 v => decide (v < 2 ^ 14)
  | .baseval3 v => decide (v < 2 ^ 21)
  | .vb v => decide (v < 2 ^ 32)
  | .vb4 v => decide (v < 2 ^ 24)
  | .vb5 v => decide (v < 2 ^ 32)
  | .hdr _ b => decide (b < 64)
  | .packed b vs => decide (b ≤ 32) && vs.all fun v => decide (v < 2 ^ b)
  | .packedIl b vs => decide (b ≤ 32) && decide (vs.length % 128 = 0) && vs.all fun v => decide (v < 2 ^ b)
  | .le k v => decide (v < 2 ^ (8 * k))
  | .bytes _ => true

end Sys2Proof
end

