-- ==== Sys2Proof/Decode.lean ====
section
/-! DEFINITION. The decoder of CMD words and of stream bytes, total: a reserved encoding decodes to the instruction
that names its fault (R103, R116). Then the encoder, and the stream assembler of R118. -/

namespace Sys2Proof

/-- RSV ≠ 0 (R103 item 1): which ILLEGAL_CMD row, by the lowest RSV bit set. -/
def decodeRsv (w : Word) : Instr :=
  if w.getLsbD 5 then .illegalRsv5 (w.extractLsb' 6 26) (w.extractLsb' 0 5)
  else if w.getLsbD 6 then .illegalRsv6 (w.extractLsb' 7 25) (w.extractLsb' 0 5)
  else if w.getLsbD 7 then .illegalRsv7 (w.extractLsb' 8 24) (w.extractLsb' 0 5)
  else if w.getLsbD 8 then .illegalRsv8 (w.extractLsb' 9 23) (w.extractLsb' 0 5)
  else if w.getLsbD 9 then .illegalRsv9 (w.extractLsb' 10 22) (w.extractLsb' 0 5)
  else if w.getLsbD 10 then .illegalRsv10 (w.extractLsb' 11 21) (w.extractLsb' 0 5)
  else if w.getLsbD 11 then .illegalRsv11 (w.extractLsb' 12 20) (w.extractLsb' 0 5)
  else if w.getLsbD 12 then .illegalRsv12 (w.extractLsb' 13 19) (w.extractLsb' 0 5)
  else if w.getLsbD 13 then .illegalRsv13 (w.extractLsb' 14 18) (w.extractLsb' 0 5)
  else if w.getLsbD 14 then .illegalRsv14 (w.extractLsb' 15 17) (w.extractLsb' 0 5)
  else if w.getLsbD 15 then .illegalRsv15 (w.extractLsb' 16 16) (w.extractLsb' 0 5)
  else if w.getLsbD 16 then .illegalRsv16 (w.extractLsb' 17 15) (w.extractLsb' 0 5)
  else if w.getLsbD 17 then .illegalRsv17 (w.extractLsb' 18 14) (w.extractLsb' 0 5)
  else if w.getLsbD 18 then .illegalRsv18 (w.extractLsb' 19 13) (w.extractLsb' 0 5)
  else if w.getLsbD 19 then .illegalRsv19 (w.extractLsb' 20 12) (w.extractLsb' 0 5)
  else if w.getLsbD 20 then .illegalRsv20 (w.extractLsb' 21 11) (w.extractLsb' 0 5)
  else if w.getLsbD 21 then .illegalRsv21 (w.extractLsb' 22 10) (w.extractLsb' 0 5)
  else if w.getLsbD 22 then .illegalRsv22 (w.extractLsb' 23 9) (w.extractLsb' 0 5)
  else if w.getLsbD 23 then .illegalRsv23 (w.extractLsb' 24 8) (w.extractLsb' 0 5)
  else if w.getLsbD 24 then .illegalRsv24 (w.extractLsb' 25 7) (w.extractLsb' 0 5)
  else if w.getLsbD 25 then .illegalRsv25 (w.extractLsb' 26 6) (w.extractLsb' 0 5)
  else if w.getLsbD 26 then .illegalRsv26 (w.extractLsb' 27 5) (w.extractLsb' 0 5)
  else if w.getLsbD 27 then .illegalRsv27 (w.extractLsb' 28 4) (w.extractLsb' 0 5)
  else if w.getLsbD 28 then .illegalRsv28 (w.extractLsb' 29 3) (w.extractLsb' 0 5)
  else if w.getLsbD 29 then .illegalRsv29 (w.extractLsb' 30 2) (w.extractLsb' 0 5)
  else if w.getLsbD 30 then .illegalRsv30 (w.extractLsb' 31 1) (w.extractLsb' 0 5)
  else .illegalRsv31 (w.extractLsb' 0 5)

/-- RSV = 0 (R103 items 2 and 3): OP selects. -/
def decodeOp (w : Word) : Instr :=
  let il := w.getLsbD 4
  match (w.extractLsb' 0 4).toNat with
  | 0 => .illegalOp0 il
  | 1 => .ldle il
  | 2 => .baseval il
  | 3 => .vb il
  | 4 => .unpack il
  | 5 => .unpackIl il
  | 6 => .scan il
  | 7 => if il then .blockIl else .block
  | 8 => if il then .seqIl else .seq
  | 9 => .illegalOp9 il
  | 10 => .illegalOpAB il 0
  | 11 => .illegalOpAB il 1
  | _ => .illegalOpCF il (w.extractLsb' 0 2)

/-- The command a CMD word encodes (R103). Total. -/
def decodeCmd (w : Word) : Instr :=
  if w.extractLsb' 5 27 = 0 then decodeOp w else decodeRsv w

/-- HDR.TYPE (R104). -/
def decodeType (x : Byte) : BlockType :=
  match (x.extractLsb' 6 2).toNat with
  | 0 => .for_
  | 1 => .pforVb
  | 2 => .pforBitmap
  | _ => .constant

/-- A block header byte (R104, R171, R172). -/
def decodeHdr (useIL : Bool) (x : Byte) : Instr :=
  let b := x.extractLsb' 0 6
  let b5 := x.extractLsb' 0 5
  if 32 < b.toNat then .badWidth (decodeType x) b
  else if b = 32 then
    match decodeType x, useIL with
    | .for_, false => .for32
    | .for_, true => .forIl32
    | .pforVb, false => .pforVb32
    | .pforVb, true => .pforVbIl32
    | .pforBitmap, false => .pforBitmap32
    | .pforBitmap, true => .pforBitmapIl32
    | .constant, _ => .constant32
  else
    match decodeType x, useIL with
    | .for_, false => .for_ b5
    | .for_, true => .forIl b5
    | .pforVb, false => .pforVb b5
    | .pforVb, true => .pforVbIl b5
    | .pforBitmap, false => .pforBitmap b5
    | .pforBitmap, true => .pforBitmapIl b5
    | .constant, _ => .constant b5

/-- A BEXC byte (R107, R176). -/
def decodeBexc (x : Byte) : Instr :=
  if x.toNat < 32 then .bexc (x.extractLsb' 0 5)
  else if x.toNat = 32 then .bexc32
  else .badWidthExc x

/-- The first byte of a baseval scalar (R110). -/
def decodeBasevalByte (x : Byte) : Instr :=
  if x.toNat < 128 then .baseval1 (x.extractLsb' 0 7)
  else if x.toNat < 192 then .baseval2 (x.extractLsb' 0 6)
  else if x.toNat < 224 then .baseval3 (x.extractLsb' 0 5)
  else .basevalRsv (x.extractLsb' 0 5)

/-- The first byte of a vb scalar (R111). -/
def decodeVbByte (x : Byte) : Instr :=
  if x.toNat ≤ 176 then .vb1 x
  else if x.toNat ≤ 240 then .vb2 x
  else if x.toNat ≤ 248 then .vb3 x
  else if x.toNat = 249 then .vb4
  else if x.toNat = 250 then .vb5
  else .vbRsv x

/-- The first byte of a nonempty exception area (R109). -/
def decodeExcArea (x : Byte) : Instr :=
  if x.toNat = 255 then .excEsc else .excVb x

/-- A stream byte in the format the engine expects; CMD words are not stream bytes and are read by `decodeCmd`. -/
def decodeByte (f : Format) (x : Byte) : Instr :=
  match f with
  | .cmd => decodeCmd (x.setWidth 32)
  | .hdr useIL => decodeHdr useIL x
  | .bexc => decodeBexc x
  | .basevalByte => decodeBasevalByte x
  | .vbByte => decodeVbByte x
  | .excArea => decodeExcArea x

/-- The decoder: a word in a format. The byte formats read bits 7:0. Total. -/
def decode (f : Format) (w : Word) : Instr :=
  match f with
  | .cmd => decodeCmd w
  | f => decodeByte f (w.setWidth 8)

/-- The format an instruction is an instruction of (spec/opcode_table.json, "format"). CONSTANT and BAD_WIDTH headers
are read alike whatever `useIL` is; this names the contiguous one. -/
def Instr.format : Instr → Format
  | .ldle _ | .baseval _ | .vb _ | .unpack _ | .unpackIl _ | .scan _ | .block | .blockIl | .seq
    | .seqIl | .illegalOp0 _ | .illegalOp9 _ | .illegalOpAB _ _ | .illegalOpCF _ _ => .cmd
  | .illegalRsv5 _ _ | .illegalRsv6 _ _ | .illegalRsv7 _ _ | .illegalRsv8 _ _ | .illegalRsv9 _ _
    | .illegalRsv10 _ _ | .illegalRsv11 _ _ | .illegalRsv12 _ _ | .illegalRsv13 _ _
    | .illegalRsv14 _ _ | .illegalRsv15 _ _ | .illegalRsv16 _ _ | .illegalRsv17 _ _
    | .illegalRsv18 _ _ | .illegalRsv19 _ _ | .illegalRsv20 _ _ | .illegalRsv21 _ _
    | .illegalRsv22 _ _ | .illegalRsv23 _ _ | .illegalRsv24 _ _ | .illegalRsv25 _ _
    | .illegalRsv26 _ _ | .illegalRsv27 _ _ | .illegalRsv28 _ _ | .illegalRsv29 _ _
    | .illegalRsv30 _ _ | .illegalRsv31 _ => .cmd
  | .for_ _ | .for32 | .pforVb _ | .pforVb32 | .pforBitmap _ | .pforBitmap32 | .constant _
    | .constant32 => .hdr false
  | .forIl _ | .forIl32 | .pforVbIl _ | .pforVbIl32 | .pforBitmapIl _ | .pforBitmapIl32 => .hdr true
  | .badWidth _ _ => .hdr false
  | .bexc _ | .bexc32 | .badWidthExc _ => .bexc
  | .baseval1 _ | .baseval2 _ | .baseval3 _ | .basevalRsv _ => .basevalByte
  | .vb1 _ | .vb2 _ | .vb3 _ | .vb4 | .vb5 | .vbRsv _ => .vbByte
  | .excEsc | .excVb _ => .excArea

/-- The width of a format's words in bits (R100). -/
def Format.bits : Format → Nat
  | .cmd => 32
  | .hdr _ | .bexc | .basevalByte | .vbByte | .excArea => 8

/-- TYPE's code (R104). -/
def BlockType.code : BlockType → BitVec 2
  | .for_ => 0
  | .pforVb => 1
  | .pforBitmap => 2
  | .constant => 3

/-- A CMD word with RSV = 0 (R101). -/
def cmdWord (il : Bool) (op : BitVec 4) : Word := 0#27 ++ BitVec.ofBool il ++ op

/-- A header byte (R104). -/
def hdrByte (ty : BlockType) (b : BitVec 6) : Byte := ty.code ++ b

/-- A byte-wide instruction's word: the byte, zeros above. -/
def byteWord (x : Byte) : Word := x.setWidth 32

/-- The encoder: an instruction's word in its format (R101–R111). -/
def encode : Instr → Word
  | .ldle il => cmdWord il 1
  | .baseval il => cmdWord il 2
  | .vb il => cmdWord il 3
  | .unpack il => cmdWord il 4
  | .unpackIl il => cmdWord il 5
  | .scan il => cmdWord il 6
  | .block => cmdWord false 7
  | .blockIl => cmdWord true 7
  | .seq => cmdWord false 8
  | .seqIl => cmdWord true 8
  | .illegalOp0 il => cmdWord il 0
  | .illegalOp9 il => cmdWord il 9
  | .illegalOpAB il lo => cmdWord il (5#3 ++ lo)
  | .illegalOpCF il lo => cmdWord il (3#2 ++ lo)
  | .illegalRsv5 hi low => hi ++ 1#1 ++ low
  | .illegalRsv6 hi low => hi ++ 1#1 ++ 0#1 ++ low
  | .illegalRsv7 hi low => hi ++ 1#1 ++ 0#2 ++ low
  | .illegalRsv8 hi low => hi ++ 1#1 ++ 0#3 ++ low
  | .illegalRsv9 hi low => hi ++ 1#1 ++ 0#4 ++ low
  | .illegalRsv10 hi low => hi ++ 1#1 ++ 0#5 ++ low
  | .illegalRsv11 hi low => hi ++ 1#1 ++ 0#6 ++ low
  | .illegalRsv12 hi low => hi ++ 1#1 ++ 0#7 ++ low
  | .illegalRsv13 hi low => hi ++ 1#1 ++ 0#8 ++ low
  | .illegalRsv14 hi low => hi ++ 1#1 ++ 0#9 ++ low
  | .illegalRsv15 hi low => hi ++ 1#1 ++ 0#10 ++ low
  | .illegalRsv16 hi low => hi ++ 1#1 ++ 0#11 ++ low
  | .illegalRsv17 hi low => hi ++ 1#1 ++ 0#12 ++ low
  | .illegalRsv18 hi low => hi ++ 1#1 ++ 0#13 ++ low
  | .illegalRsv19 hi low => hi ++ 1#1 ++ 0#14 ++ low
  | .illegalRsv20 hi low => hi ++ 1#1 ++ 0#15 ++ low
  | .illegalRsv21 hi low => hi ++ 1#1 ++ 0#16 ++ low
  | .illegalRsv22 hi low => hi ++ 1#1 ++ 0#17 ++ low
  | .illegalRsv23 hi low => hi ++ 1#1 ++ 0#18 ++ low
  | .illegalRsv24 hi low => hi ++ 1#1 ++ 0#19 ++ low
  | .illegalRsv25 hi low => hi ++ 1#1 ++ 0#20 ++ low
  | .illegalRsv26 hi low => hi ++ 1#1 ++ 0#21 ++ low
  | .illegalRsv27 hi low => hi ++ 1#1 ++ 0#22 ++ low
  | .illegalRsv28 hi low => hi ++ 1#1 ++ 0#23 ++ low
  | .illegalRsv29 hi low => hi ++ 1#1 ++ 0#24 ++ low
  | .illegalRsv30 hi low => hi ++ 1#1 ++ 0#25 ++ low
  | .illegalRsv31 low => 1#1 ++ 0#26 ++ low
  | .for_ b => byteWord (hdrByte .for_ (b.setWidth 6))
  | .for32 => byteWord (hdrByte .for_ 32)
  | .pforVb b => byteWord (hdrByte .pforVb (b.setWidth 6))
  | .pforVb32 => byteWord (hdrByte .pforVb 32)
  | .pforBitmap b => byteWord (hdrByte .pforBitmap (b.setWidth 6))
  | .pforBitmap32 => byteWord (hdrByte .pforBitmap 32)
  | .constant b => byteWord (hdrByte .constant (b.setWidth 6))
  | .constant32 => byteWord (hdrByte .constant 32)
  | .forIl b => byteWord (hdrByte .for_ (b.setWidth 6))
  | .forIl32 => byteWord (hdrByte .for_ 32)
  | .pforVbIl b => byteWord (hdrByte .pforVb (b.setWidth 6))
  | .pforVbIl32 => byteWord (hdrByte .pforVb 32)
  | .pforBitmapIl b => byteWord (hdrByte .pforBitmap (b.setWidth 6))
  | .pforBitmapIl32 => byteWord (hdrByte .pforBitmap 32)
  | .badWidth ty b => byteWord (hdrByte ty b)
  | .bexc e => byteWord (e.setWidth 8)
  | .bexc32 => byteWord 32
  | .badWidthExc e => byteWord e
  | .baseval1 v => byteWord (v.setWidth 8)
  | .baseval2 vHi => byteWord (2#2 ++ vHi)
  | .baseval3 vHi => byteWord (6#3 ++ vHi)
  | .basevalRsv low => byteWord (7#3 ++ low)
  | .vb1 x => byteWord x
  | .vb2 x => byteWord x
  | .vb3 x => byteWord x
  | .vb4 => byteWord 249
  | .vb5 => byteWord 250
  | .vbRsv x => byteWord x
  | .excEsc => byteWord 255
  | .excVb x => byteWord x

/-- The first byte of a stream item's encoding. -/
def Instr.firstByte (i : Instr) : Byte := (encode i).setWidth 8

/-- The instruction the decoder reads from a row of spec/opcode_table.json: 32-bit rows are CMD words. An 8-bit row's
bits do not say which of six formats they are read in; with no engine state at hand they are read as a block header of
the contiguous flavour (DESIGN CHOICE, log 4). -/
def decodeTableWord (nbits w : Nat) : Option Instr :=
  if nbits = 32 then some (decodeCmd (BitVec.ofNat 32 w))
  else if nbits = 8 then some (decodeByte (.hdr false) (BitVec.ofNat 8 w))
  else none

/-! ### The stream assembler (R118) -/

/-- `Σ_{j<n} f j × 2^j` (R10): the number whose bits, least significant first, are `f`. -/
def ofBits : Nat → (Nat → Bool) → Nat
  | 0, _ => 0
  | n + 1, f => ofBits n f + if f n then 2 ^ n else 0

/-- `v` as `k` little-endian bytes (R118 `le.K V`). -/
def leBytes : Nat → Nat → List Byte
  | 0, _ => []
  | k + 1, v => BitVec.ofNat 8 v :: leBytes k (v / 256)

/-- The shortest baseval form (R110, R118). -/
def encodeBaseval (v : Nat) : List Byte :=
  if v < 2 ^ 7 then leBytes 1 v
  else if v < 2 ^ 14 then [BitVec.ofNat 8 (128 + v / 256), BitVec.ofNat 8 v]
  else [BitVec.ofNat 8 (192 + v / 65536), BitVec.ofNat 8 v, BitVec.ofNat 8 (v / 256)]

/-- The shortest vb form (R111, R118). -/
def encodeVb (v : Nat) : List Byte :=
  if v ≤ 176 then leBytes 1 v
  else if v ≤ 16560 then [BitVec.ofNat 8 (177 + (v - 177) / 256), BitVec.ofNat 8 (v - 177)]
  else if v ≤ 540848 then BitVec.ofNat 8 (241 + (v - 16561) / 65536) :: leBytes 2 (v - 16561)
  else if v < 2 ^ 24 then 249#8 :: leBytes 3 v
  else 250#8 :: leBytes 4 v

/-- The number a contiguous region of width `b` holds (R112): field `k` is bits `k·b … k·b + b − 1`. -/
def packContig (b : Nat) : List Nat → Nat
  | [] => 0
  | v :: vs => v + 2 ^ b * packContig b vs

/-- The number an interleaved region of width `b` holds (R112, R154): region bit `128·m + 32·j + r` is bit
`32·m + r` of lane `j`, and field `i` of lane `j` is position `4i + j`. -/
def packIl (b : Nat) (vs : List Nat) : Nat :=
  ofBits (vs.length * b) fun q =>
    let laneBit := 32 * (q / 128) + q % 32
    (vs.getD (4 * (laneBit / b) + q % 128 / 32) 0).testBit (laneBit % b)

/-- The bytes an assembler item stands for (R118). -/
def StreamItem.toBytes : StreamItem → List Byte
  | .baseval v => encodeBaseval v
  | .baseval2 v => [BitVec.ofNat 8 (128 + v / 256), BitVec.ofNat 8 v]
  | .baseval3 v => [BitVec.ofNat 8 (192 + v / 65536), BitVec.ofNat 8 v, BitVec.ofNat 8 (v / 256)]
  | .vb v => encodeVb v
  | .vb4 v => 249#8 :: leBytes 3 v
  | .vb5 v => 250#8 :: leBytes 4 v
  | .hdr ty b => [hdrByte ty (BitVec.ofNat 6 b)]
  | .packed b vs => leBytes (ceilDiv (vs.length * b) 8) (packContig b vs)
  | .packedIl b vs => leBytes (vs.length * b / 8) (packIl b vs)
  | .le k v => leBytes k v
  | .bytes vs => vs

/-- A stream written item by item. -/
def assemble (items : List StreamItem) : List Byte := items.flatMap StreamItem.toBytes

/-- `block CONSTANT b=N v=V` (R118). -/
def StreamItem.blockConstant (b v : Nat) : List StreamItem := [.hdr .constant b, .le (ceilDiv b 8) v]

/-- `block FOR b=N: g…` (R118). -/
def StreamItem.blockFor (b : Nat) (g : List Nat) : List StreamItem := [.hdr .for_ b, .packed b g]

/-- `block PFOR_VB b=N exc=[(i,x)…] base: g…` (R118). -/
def StreamItem.blockPforVb (b : Nat) (exc : List (Nat × Nat)) (g : List Nat) : List StreamItem :=
  [.hdr .pforVb b, .le 1 exc.length, .packed b g] ++ exc.map (fun p => .vb p.2) ++ exc.map (fun p => .le 1 p.1)

/-- `block PFOR_VB.esc …` (R118). -/
def StreamItem.blockPforVbEsc (b : Nat) (exc : List (Nat × Nat)) (g : List Nat) : List StreamItem :=
  [.hdr .pforVb b, .le 1 exc.length, .packed b g, .le 1 255] ++ exc.map (fun p => .le 4 p.2) ++
    exc.map (fun p => .le 1 p.1)

end Sys2Proof
end

