-- ==== Sys2Proof/Machine/State.lean ====
section
/-! DEFINITION. The state of PFDE (spec/10_state.md R31), the reasons a step can stop, and the state after power-on
reset. -/

namespace Sys2Proof.Machine

/-- A memory in canonical form: addresses strictly rising. An unlisted address holds no value (R62), so no entry can
equal what an unlisted address reads as. -/
abbrev Memory (α : Type) := List (Nat × α)

/-- Why the machine stops. None of these is an engine fault: those are taken (R227), and the machine goes on. -/
inductive Fault where
  /-- A command read an IBUF byte never written since power-on (R62). Raised by every command that reads IBUF. Safe. -/
  | unwrittenByte (addr : Nat)
  /-- A command read an OBUF word never written since power-on (R62). Raised by SCAN. Safe. -/
  | unwrittenWord (idx : Nat)
  /-- A host access outside REG's 256 bytes, IBUF's IN_CAP bytes or OBUF's OUT_CAP words, counted from the space's base
  (R70–R72): no such address exists. Raised by a host access. Safe. Log 9. -/
  | noSuchAddress (sp : Space) (addr : Nat)
  /-- A stream item's meaning was asked for where no command in flight awaits that item; no step does so. Raised by
  the stream items. Safe. Log 12. -/
  | itemNotExpected
  deriving DecidableEq, Repr

/-- What the model does not accept. -/
inductive Refusal where
  /-- An instruction without a meaning; no arm of `exec` answers so. Safe. -/
  | notModelled (mnemonic : String)
  /-- A host access of a width or alignment outside R60 and R78: the platform's bus error, which a model refuses.
  Raised by a host access. Safe. -/
  | busError (sp : Space) (addr width : Nat)
  deriving DecidableEq, Repr

/-- The engine's fault codes (R221). -/
inductive FaultCode where
  | illegalCmd
  | basevalRsv
  | vbRsv
  | excIndex
  | truncated
  | badWidth
  | excShift
  | badParam
  | outRange
  | vbEmptyAmbig
  deriving DecidableEq, Repr

/-- What ends a command's pseudocode early: `raise Fault(CODE, off)` (R12), or a stop of the model. -/
inductive Stop where
  | engine (code : FaultCode) (off : Nat)
  | model (f : Fault)
  deriving DecidableEq, Repr

/-- A piece of pseudocode: a value, or the fault it raises. -/
abbrev Res (α : Type) := Except Stop α

/-- What the next stream byte is to a command in flight (R216). -/
inductive Expect where
  /-- The BASEVAL command's scalar (R133). -/
  | scalarBaseval
  /-- The VB command's scalar (R135). -/
  | scalarVb
  /-- SEQ's seed (R210). -/
  | seed
  /-- A block header (R171). -/
  | header
  /-- The BEXC byte of the PFOR_BITMAP block of `num` positions whose header stands at `hdr` (R176). -/
  | bexc (hdr num b : Nat) (useIL : Bool)
  /-- The first byte of the exception area of a PFOR_VB block with `n` exceptions and stored gaps `g` (R180). -/
  | excArea (num b n : Nat) (g : List Word)
  /-- The next vb exception value; `xs` is the exception scratch array so far (R55, R180). -/
  | excVb (num b n : Nat) (g xs : List Word)
  deriving DecidableEq, Repr

/-- Command-local state (R52) of a command that proceeds item by item. -/
structure Run where
  /-- The stream cursor (R32), an integer. -/
  cur : Nat
  /-- The scan's running `prev`. -/
  prev : Word
  /-- The identifiers decoded so far, none of them written to OBUF yet. -/
  out : List Word
  /-- How many identifiers are still to be decoded. -/
  todo : Nat
  /-- The IL bit of the command. -/
  il : Bool
  expect : Expect
  deriving DecidableEq, Repr

/-- The engine phase (R56). A BUSY engine holds the CMD word it accepted, the number of steps the host still has before
it acts (R262, log 2), and its command-local state when it proceeds item by item (R52, log 1). -/
inductive Engine where
  | idle
  | busy (word : Word) (left : Nat) (run : Option Run)
  deriving DecidableEq, Repr

/-- Everything the spec gives the machine (R31), and the model's own last three fields. Each field is named after its
register. STATUS.BUSY, `irq` and CONFIG are computed (`State.busy`, `State.irq`, `State.configWord`). -/
structure State where
  /-- The parameters CONFIG reports, the capacities and the bases (R8, R34). -/
  params : Params
  /-- CTRL.IE (R35). -/
  ie : Bool
  /-- STATUS.DONE (R39). -/
  done : Bool
  /-- STATUS.ERR (R40). -/
  err : Bool
  /-- STATUS.OVR (R41). -/
  ovr : Bool
  /-- STATUS.ERRCODE (R42). -/
  errCode : BitVec 4
  /-- CUR (R43). -/
  cur : Word
  /-- IN_LEN (R44). -/
  inLen : Word
  /-- COUNT (R45). -/
  count : Word
  /-- OUT_IDX (R46). -/
  outIdx : Word
  /-- PREV (R47). -/
  prev : Word
  /-- BW[5:0] (R48); bits 31:6 read 0. -/
  bw : BitVec 6
  /-- RESULT_LO (R49). -/
  resultLo : Word
  /-- RESULT_HI (R49). -/
  resultHi : Word
  /-- ERR_OFF (R50). -/
  errOff : Word
  /-- CONSUMED (R51). -/
  consumed : Word
  /-- IBUF (R70). -/
  ibuf : Memory Byte
  /-- OBUF (R71). -/
  obuf : Memory Word
  /-- The engine phase (R56). -/
  engine : Engine
  /-- Model: how many free values have been drawn (log 6). -/
  draws : Nat
  /-- Model: the host's pending moves, first one first (R84, log 3). -/
  hostQ : List HostOp
  /-- Model: what the host's last read returned (log 3). -/
  readData : Option Word
  deriving DecidableEq, Repr

/-- Power-on reset (R61, R251), on the default engine (R8, log 5). -/
def State.reset : State where
  params := Params.default
  ie := false
  done := false
  err := false
  ovr := false
  errCode := 0
  cur := 0
  inLen := 0
  count := 0
  outIdx := 0
  prev := 0
  bw := 0
  resultLo := 0
  resultHi := 0
  errOff := 0
  consumed := 0
  ibuf := []
  obuf := []
  engine := .idle
  draws := 0
  hostQ := []
  readData := none

end Sys2Proof.Machine
end

