-- ==== Sys2Proof/Machine/Flags.lean ====
section
/-! DEFINITION. The STATUS bits (spec/10_state.md R37–R42), the CONFIG and CTRL words, and `irq` (R57). -/

namespace Sys2Proof.Machine

/-- The phase is BUSY (R56); also STATUS.BUSY (R38). -/
def State.busy (s : State) : Bool :=
  match s.engine with
  | .idle => false
  | .busy _ _ _ => true

/-- `irq = CTRL.IE & STATUS.DONE` (R57). -/
def State.irq (s : State) : Bool := s.ie && s.done

/-- STATUS.ERRCODE of a fault (R221). -/
def FaultCode.code : FaultCode → BitVec 4
  | .illegalCmd => 1
  | .basevalRsv => 2
  | .vbRsv => 3
  | .excIndex => 4
  | .truncated => 5
  | .badWidth => 6
  | .excShift => 7
  | .badParam => 8
  | .outRange => 9
  | .vbEmptyAmbig => 10

/-- The faults raised before a command touches OBUF, which leave it unchanged (R229). -/
def FaultCode.keepsObuf : FaultCode → Bool
  | .illegalCmd | .badParam | .outRange => true
  | .basevalRsv | .vbRsv | .excIndex | .truncated | .badWidth | .excShift | .vbEmptyAmbig => false

/-- The STATUS word as read (R37). -/
def State.statusWord (s : State) : Word :=
  0#20 ++ s.errCode ++ 0#4 ++ BitVec.ofBool s.ovr ++ BitVec.ofBool s.err ++ BitVec.ofBool s.done ++ BitVec.ofBool s.busy

/-- The CTRL word as read (R35): SRST and the reserved bits read 0. -/
def State.ctrlWord (s : State) : Word := 0#31 ++ BitVec.ofBool s.ie

/-- CONFIG.CONTIG_MODE (R34). -/
def contigModeBit (m : ContigMode) : BitVec 1 :=
  match m with
  | .exact => 0
  | .window32 => 1

/-- CONFIG.VB_EMPTY_SELECTOR (R34). -/
def vbEmptyBits (v : VbEmptySelector) : BitVec 2 :=
  match v with
  | .faultOnFf => 0
  | .noRead => 1
  | .consume => 2

/-- CONFIG (R34). -/
def State.configWord (s : State) : Word :=
  0#5 ++ vbEmptyBits s.params.vbEmpty ++ contigModeBit s.params.contigMode ++ 32#8 ++ BitVec.ofNat 16 s.params.bs

/-- STATUS when a command is accepted: DONE, ERR and ERRCODE are cleared, OVR is not (R241). -/
def State.flagsOnAccept (s : State) : State := { s with done := false, err := false, errCode := 0 }

/-- STATUS at successful completion (R242). -/
def State.flagsOnSuccess (s : State) : State := { s with done := true }

/-- STATUS at fault entry (R227). -/
def State.flagsOnFault (s : State) (code : FaultCode) : State :=
  { s with done := true, err := true, errCode := code.code }

/-- A host write of STATUS: DONE, ERR and OVR are W1C, and clearing ERR sets ERRCODE to 0 (R39–R42). -/
def State.clearStatus (s : State) (v : Word) : State :=
  { s with
    done := s.done && !v.getLsbD 1
    err := s.err && !v.getLsbD 2
    errCode := if v.getLsbD 2 then 0 else s.errCode
    ovr := s.ovr && !v.getLsbD 3 }

end Sys2Proof.Machine
end

