-- ==== Sys2Proof/Machine/Ops.lean ====
section
/-! DEFINITION. The named operations of the machine: memories, raising and taking an engine fault, completing a
command, and moving a command in flight on by one stream item. -/

namespace Sys2Proof.Machine

/-! ### Memories -/

/-- Addresses strictly rising. -/
def Memory.wf {α : Type} : Memory α → Bool
  | [] => true
  | [_] => true
  | (a, _) :: (b, w) :: m => decide (a < b) && Memory.wf ((b, w) :: m)

/-- The value at an address; none where nothing has been written (R62). -/
def Memory.read {α : Type} : Memory α → Nat → Option α
  | [], _ => none
  | (b, w) :: m, a => if a = b then some w else Memory.read m a

/-- Write one value. -/
def Memory.write {α : Type} : Memory α → Nat → α → Memory α
  | [], a, v => [(a, v)]
  | (b, w) :: m, a, v =>
    if a < b then (a, v) :: (b, w) :: m
    else if a = b then (a, v) :: m
    else (b, w) :: Memory.write m a v

/-- Write consecutive values from an address on. -/
def Memory.writeAll {α : Type} (m : Memory α) (a : Nat) : List α → Memory α
  | [] => m
  | v :: vs => Memory.writeAll (m.write a v) (a + 1) vs

/-- Draw the `n` words from `o` on that exist below `cap` freely, the first from draw `k` (R229, R253). -/
def Memory.scramble (m : Memory Word) (o k cap : Nat) : Nat → Memory Word
  | 0 => m
  | n + 1 =>
    if o + n < cap then (Memory.scramble m o k cap n).write (o + n) (Config.freeWord (k + n))
    else Memory.scramble m o k cap n

/-! ### Raising a fault and the checks every command shares -/

/-- `raise Fault(CODE, off)` (R12). -/
def raise {α : Type} (code : FaultCode) (off : Nat) : Res α := .error (.engine code off)

/-- IN_LEN above IN_CAP is BAD_PARAM for every command that reads IBUF (R226, R241). -/
def State.checkInLen (s : State) : Res Unit :=
  if s.params.inCap < s.inLen.toNat then raise .badParam s.cur.toNat else .ok ()

/-- The output range check (R77, R226): OUT_IDX + n words must exist. -/
def State.checkOut (s : State) (n : Nat) : Res Unit :=
  if s.params.outCap < s.outIdx.toNat + n then raise .outRange s.cur.toNat else .ok ()

/-- How many OBUF words a command writes on success, from OUT_IDX on (R77). Stream items are not commands. -/
def State.writeSet (s : State) (i : Instr) : Nat :=
  match i with
  | .ldle _ | .baseval _ | .vb _ => 0
  | .unpack _ => s.count.toNat
  | .unpackIl _ => s.params.bs
  | .scan _ => s.count.toNat
  | .block | .blockIl | .seq | .seqIl => s.count.toNat
  | .illegalOp0 _ | .illegalOp9 _ | .illegalOpAB _ _ | .illegalOpCF _ _ => 0
  | .illegalRsv5 _ _ | .illegalRsv6 _ _ | .illegalRsv7 _ _ | .illegalRsv8 _ _ | .illegalRsv9 _ _
    | .illegalRsv10 _ _ | .illegalRsv11 _ _ | .illegalRsv12 _ _ | .illegalRsv13 _ _
    | .illegalRsv14 _ _ | .illegalRsv15 _ _ | .illegalRsv16 _ _ | .illegalRsv17 _ _
    | .illegalRsv18 _ _ | .illegalRsv19 _ _ | .illegalRsv20 _ _ | .illegalRsv21 _ _
    | .illegalRsv22 _ _ | .illegalRsv23 _ _ | .illegalRsv24 _ _ | .illegalRsv25 _ _
    | .illegalRsv26 _ _ | .illegalRsv27 _ _ | .illegalRsv28 _ _ | .illegalRsv29 _ _
    | .illegalRsv30 _ _ | .illegalRsv31 _ => 0
  | .for_ _ | .for32 | .pforVb _ | .pforVb32 | .pforBitmap _ | .pforBitmap32 | .constant _
    | .constant32 => 0
  | .forIl _ | .forIl32 | .pforVbIl _ | .pforVbIl32 | .pforBitmapIl _ | .pforBitmapIl32 => 0
  | .badWidth _ _ | .bexc _ | .bexc32 | .badWidthExc _ | .baseval1 _ | .baseval2 _ | .baseval3 _
    | .basevalRsv _ | .vb1 _ | .vb2 _ | .vb3 _ | .vb4 | .vb5 | .vbRsv _ | .excEsc | .excVb _ => 0

/-- The OBUF write set of the command in flight; empty when IDLE. -/
def State.runningWriteSet (s : State) : Nat :=
  match s.engine with
  | .idle => 0
  | .busy w _ _ => s.writeSet (decodeCmd w)

/-- The `n` OBUF words from OUT_IDX on take any value (R229, R253). -/
def State.scramble (s : State) (n : Nat) : State :=
  { s with
    obuf := s.obuf.scramble s.outIdx.toNat s.draws s.params.outCap n
    draws := s.draws + n }

/-- Fault entry, the engine's trap (R227): staged writes are dropped (R228), ERR_OFF and STATUS name the fault, the
phase is IDLE, and the write set of `n` words is unspecified unless the fault came before OBUF (R229). The return from
it is the host's STATUS write, `State.clearStatus`, or its next command (R233). -/
def State.faultEntry (s : State) (code : FaultCode) (off n : Nat) : State :=
  { (s.scramble (if code.keepsObuf then 0 else n)).flagsOnFault code with
    errOff := BitVec.ofNat 32 off
    engine := .idle }

/-- Successful completion (R242), the staged writes already in `s`. -/
def State.complete (s : State) : State := { s.flagsOnSuccess with engine := .idle }

/-- How a command ends: completed (R242), faulted (R227), or stopped by the model (R62). `s` is its start state, `n` its
write set. -/
def State.finish (s : State) (n : Nat) (r : Res State) : Host.Outcome State Fault Refusal :=
  match r with
  | .ok t => .next t.complete
  | .error (.engine code off) => .next (s.faultEntry code off n)
  | .error (.model f) => .fault f

/-- The consecutive OBUF writes of a command: `OutWrite(o + k, vs[k])`. -/
def State.writeOut (s : State) (vs : List Word) : State :=
  { s with obuf := s.obuf.writeAll s.outIdx.toNat vs }

/-! ### One stream item of a command in flight -/

/-- Where a command in flight stands after an item: more items follow, or it has staged its results in `t`. -/
inductive Progress where
  | more (r : Run)
  | finished (t : State)
  deriving DecidableEq, Repr

/-- The state after an item of the command `w` in flight: the item's progress is kept beside the start state, or the
command completes (R242). -/
def State.advance (s : State) (w : Word) (left : Nat) (p : Progress) : State :=
  match p with
  | .more r => { s with engine := .busy w left (some r) }
  | .finished t => t.complete

/-- Process one item of the command in flight (R52). -/
def State.runItem (s : State) (item : Run → Res Progress) : Host.Outcome State Fault Refusal :=
  match s.engine with
  | .busy w left (some r) =>
    match item r with
    | .ok p => .next (s.advance w left p)
    | .error (.engine code off) => .next (s.faultEntry code off s.runningWriteSet)
    | .error (.model f) => .fault f
  | .idle => .fault .itemNotExpected
  | .busy _ _ none => .fault .itemNotExpected

/-- The item is not the one awaited (log 12). -/
def unexpected {α : Type} : Res α := .error (.model .itemNotExpected)

end Sys2Proof.Machine
end

