-- ==== Sys2Proof/Machine/Operands.lean ====
section
/-! DEFINITION. The operand forms: IBUF loads (spec/40_scalar.md R130, spec/00_scope.md R12), packed regions contiguous
and interleaved (spec/41_bitunpack.md), and the source's two bit readers. -/

namespace Sys2Proof.Machine

/-! ### Loads from IBUF -/

/-- `Need(a, n)` (R12); `n = 0` never faults (log 7). -/
def State.need (s : State) (a n : Nat) : Res Unit :=
  if n ≠ 0 ∧ s.inLen.toNat < a + n then raise .truncated a else .ok ()

/-- `IBUF[a]` (R12). A byte never written stops the model (R62). -/
def State.byteAt (s : State) (a : Nat) : Res Byte :=
  match s.ibuf.read a with
  | some x => .ok x
  | none => .error (.model (.unwrittenByte a))

/-- The bytes `a … a + n − 1`, read in rising order. -/
def State.bytesAt (s : State) (a : Nat) : Nat → Res (List Byte)
  | 0 => .ok []
  | n + 1 => do
    let x ← s.byteAt a
    let xs ← s.bytesAt (a + 1) n
    .ok (x :: xs)

/-- The little-endian number of a list of bytes (R73, R130). Its bit `q` is stream bit `q` (R10). -/
def leNat : List Byte → Nat
  | [] => 0
  | x :: xs => x.toNat + 256 * leNat xs

/-- The `n` bytes of a region at `a`, as the number whose bit `q` is `Bit(a, q)` (R10, R12). All of them are
meaningful (R74), so all are read; the region's `Need` comes before (R152, R157). -/
def State.region (s : State) (a n : Nat) : Res Nat := do
  let xs ← s.bytesAt a n
  .ok (leNat xs)

/-- `MemRead(a, n)` (R12, R130), `1 ≤ n ≤ 8`. -/
def State.memRead (s : State) (a n : Nat) : Res Nat := do
  s.need a n
  s.region a n

/-! ### Fields of a packed region. `r` is the region's number -/

/-- `ContigField` (R150). -/
def contigField (r k b : Nat) : Nat := ofBits b fun j => r.testBit (k * b + j)

/-- `Window32Field` (R151). -/
def window32Field (r k b : Nat) : Nat := ofBits (min b (32 - k * b % 8)) fun j => r.testBit (k * b + j)

/-- `Field` in the selected CONTIG_MODE (R151); 0 for `b = 0` (R153). -/
def field (m : ContigMode) (r k b : Nat) : Nat :=
  if b = 0 then 0
  else
    match m with
    | .exact => contigField r k b
    | .window32 => window32Field r k b

/-- `LaneBit` (R154). -/
def laneBit (r j q : Nat) : Bool := r.testBit (8 * (16 * (q / 32) + 4 * j) + q % 32)

/-- `IlField` (R154): field `i` of lane `j`. -/
def ilField (r j i b : Nat) : Nat := ofBits b fun t => laneBit r j (i * b + t)

/-- `IlGap` (R156): position `4i + j` is field `i` of lane `j`. -/
def ilGap (r p b : Nat) : Nat := if b = 0 then 0 else ilField r (p % 4) (p / 4) b

/-- `PackedSize` (spec/42_blocks.md, R152, R157). -/
def packedSize (bs n b : Nat) (il : Bool) : Nat := if il then bs * b / 8 else ceilDiv (n * b) 8

/-- The fields `Gaps` names (spec/42_blocks.md), read from the region's number. -/
def unpackFields (p : Params) (r n b : Nat) (il : Bool) : List Word :=
  if il then (List.range p.bs).map fun k => BitVec.ofNat 32 (ilGap r k b)
  else (List.range n).map fun k => BitVec.ofNat 32 (field p.contigMode r k b)

/-- `Gaps(a, n, b, il)` (spec/42_blocks.md): the packed region's fields. -/
def State.gaps (s : State) (a n b : Nat) (il : Bool) : Res (List Word) := do
  let r ← s.region a (packedSize s.params.bs n b il)
  .ok (unpackFields s.params r n b il)

/-! ### The source's bit readers (R53–R55, R151, R155). The engine's fields above are what they compute -/

/-- The 32-bit little-endian word at byte `p` of the stream whose number is `r`. -/
def loadWord (r p : Nat) : Nat := r / 2 ^ (8 * p) % 2 ^ 32

/-- State of the contiguous reader (R53): byte cursor and bits used, 0 … 7. -/
structure ContigReader where
  p : Nat
  bitsUsed : Nat
  deriving DecidableEq, Repr

/-- One `read()` of the contiguous reader (R151). -/
def contigRead (r b : Nat) (c : ContigReader) : Nat × ContigReader :=
  (loadWord r c.p / 2 ^ c.bitsUsed % 2 ^ b, ⟨c.p + (c.bitsUsed + b) / 8, (c.bitsUsed + b) % 8⟩)

/-- The reader after `k` reads from the region's start. -/
def contigReaderAt (r b : Nat) : Nat → ContigReader
  | 0 => ⟨0, 0⟩
  | k + 1 => (contigRead r b (contigReaderAt r b k)).2

/-- State of one lane's reader (R54): byte cursor and bits used, 0 … 31. -/
structure LaneReader where
  p : Nat
  bitsUsed : Nat
  deriving DecidableEq, Repr

/-- One `read()` of a lane's reader (R155), Stride = 16 bytes; shifts and OR act on 32-bit words. -/
def laneRead (r b : Nat) (c : LaneReader) : Nat × LaneReader :=
  let w0 := loadWord r c.p
  let val :=
    if 32 < c.bitsUsed + b then
      w0 / 2 ^ c.bitsUsed ||| loadWord r (c.p + 16) * 2 ^ (32 - c.bitsUsed) % 2 ^ 32
    else w0 / 2 ^ c.bitsUsed
  (val % 2 ^ b, ⟨c.p + 16 * ((c.bitsUsed + b) / 32), (c.bitsUsed + b) % 32⟩)

/-- Lane `j`'s reader after `i` reads; it starts at region offset `4·j` (R54). -/
def laneReaderAt (r b j : Nat) : Nat → LaneReader
  | 0 => ⟨4 * j, 0⟩
  | i + 1 => (laneRead r b (laneReaderAt r b j i)).2

end Sys2Proof.Machine
end

