-- ==== Sys2Proof/Machine/Scalar.lean ====
section
/-! DEFINITION. The word loader and the varbyte scalars (spec/40_scalar.md): LDLE, BASEVAL, VB. -/

namespace Sys2Proof.Machine

/-! ### Baseval (R132), one definition for each length. `x` is the first byte, already read at `c` -/

/-- 1-byte form. -/
def basevalForm1 (x : Byte) : Word × Nat := (x.setWidth 32, 1)

/-- 2-byte form: `((x << 8) | b₁) & 0x3FFF`. -/
def State.basevalForm2 (s : State) (c : Nat) (x : Byte) : Res (Word × Nat) := do
  s.need c 2
  let b1 ← s.byteAt (c + 1)
  .ok (((x.setWidth 32 <<< 8) ||| b1.setWidth 32) &&& 0x3FFF#32, 2)

/-- 3-byte form: `((x << 16) | (b₂ << 8) | b₁) & 0x1FFFFF`, the low byte first after the prefix. -/
def State.basevalForm3 (s : State) (c : Nat) (x : Byte) : Res (Word × Nat) := do
  s.need c 3
  let b2 ← s.byteAt (c + 2)
  let b1 ← s.byteAt (c + 1)
  .ok (((x.setWidth 32 <<< 16) ||| (b2.setWidth 32 <<< 8) ||| b1.setWidth 32) &&& 0x1FFFFF#32, 3)

/-- `DecodeBaseval(c) → (v, len)` (R132). -/
def State.decodeBaseval (s : State) (c : Nat) : Res (Word × Nat) := do
  s.need c 1
  let x ← s.byteAt c
  if x.toNat < 128 then .ok (basevalForm1 x)
  else if x.toNat < 192 then s.basevalForm2 c x
  else if x.toNat < 224 then s.basevalForm3 c x
  else raise .basevalRsv c

/-! ### Vb (R134), one definition for each length -/

/-- 1-byte form. -/
def vbForm1 (x : Byte) : Word × Nat := (x.setWidth 32, 1)

/-- 2-byte form: `(((x − 177) << 8) | b₁) + 177`. -/
def State.vbForm2 (s : State) (c : Nat) (x : Byte) : Res (Word × Nat) := do
  s.need c 2
  let b1 ← s.byteAt (c + 1)
  .ok ((((x.setWidth 32 - 177) <<< 8) ||| b1.setWidth 32) + 177, 2)

/-- 3-byte form: `(((x − 241) << 16) | MemRead(c+1, 2)) + 16561`. -/
def State.vbForm3 (s : State) (c : Nat) (x : Byte) : Res (Word × Nat) := do
  s.need c 3
  let v ← s.memRead (c + 1) 2
  .ok ((((x.setWidth 32 - 241) <<< 16) ||| BitVec.ofNat 32 v) + 16561, 3)

/-- 4-byte form: 3 little-endian bytes following. -/
def State.vbForm4 (s : State) (c : Nat) : Res (Word × Nat) := do
  s.need c 4
  let v ← s.memRead (c + 1) 3
  .ok (BitVec.ofNat 32 v, 4)

/-- 5-byte form: 4 little-endian bytes following. -/
def State.vbForm5 (s : State) (c : Nat) : Res (Word × Nat) := do
  s.need c 5
  let v ← s.memRead (c + 1) 4
  .ok (BitVec.ofNat 32 v, 5)

/-- `DecodeVb(c) → (v, len)` (R134). -/
def State.decodeVb (s : State) (c : Nat) : Res (Word × Nat) := do
  s.need c 1
  let x ← s.byteAt c
  if x.toNat ≤ 176 then .ok (vbForm1 x)
  else if x.toNat ≤ 240 then s.vbForm2 c x
  else if x.toNat ≤ 248 then s.vbForm3 c x
  else if x.toNat = 249 then s.vbForm4 c
  else if x.toNat = 250 then s.vbForm5 c
  else raise .vbRsv c

/-! ### The commands -/

/-- What BASEVAL and VB stage (R133, R135). -/
def State.commitScalar (s : State) (v : Word) (len : Nat) : State :=
  { s with
    resultLo := v
    resultHi := 0
    cur := BitVec.ofNat 32 (s.cur.toNat + len)
    consumed := BitVec.ofNat 32 len }

/-- LDLE's pseudocode (R131). -/
def State.ldle (s : State) : Res State := do
  s.checkInLen
  if s.bw.toNat ∈ [1, 2, 4, 8] then
    let v ← s.memRead s.cur.toNat s.bw.toNat
    .ok { s with
      resultLo := BitVec.ofNat 32 v
      resultHi := BitVec.ofNat 32 (v / 2 ^ 32)
      consumed := 0 }
  else raise .badParam s.cur.toNat

/-- BASEVAL's pseudocode (R133). -/
def State.baseval (s : State) : Res State := do
  s.checkInLen
  let (v, len) ← s.decodeBaseval s.cur.toNat
  .ok (s.commitScalar v len)

/-- VB's pseudocode (R135). -/
def State.vb (s : State) : Res State := do
  s.checkInLen
  let (v, len) ← s.decodeVb s.cur.toNat
  .ok (s.commitScalar v len)

/-- LDLE (R131). -/
def execLdle (_il : Bool) (s : State) : Host.Outcome State Fault Refusal := s.finish 0 s.ldle

/-- BASEVAL (R133). -/
def execBaseval (_il : Bool) (s : State) : Host.Outcome State Fault Refusal := s.finish 0 s.baseval

/-- VB (R135). -/
def execVb (_il : Bool) (s : State) : Host.Outcome State Fault Refusal := s.finish 0 s.vb

end Sys2Proof.Machine
end

