-- ==== Sys2Proof/Machine/Blocks.lean ====
section
/-! DEFINITION. The prefix scan, the block decoders and the dispatcher (spec/42_blocks.md): SCAN and BLOCK. -/

namespace Sys2Proof.Machine

/-! ### The delta-plus-one scan -/

/-- `Scan(prev, g)` (R170): the arithmetic is mod 2^32. -/
def scan (prev : Word) : List Word → List Word
  | [] => []
  | g :: gs => (prev + g + 1) :: scan (prev + g + 1) gs

/-- `g[i] = g[i] | v`. -/
def orAt : List Word → Nat → Word → List Word
  | [], _, _ => []
  | w :: ws, 0, v => (w ||| v) :: ws
  | w :: ws, i + 1, v => w :: orAt ws i v

/-- The exceptions `(position, high part)` ORed in at bit `b` (R181), `b ≤ 31`. -/
def orAll (b : Nat) (g : List Word) : List (Nat × Word) → List Word
  | [] => g
  | (i, h) :: es => orAll b (orAt g i (h <<< b)) es

/-! ### CONSTANT and FOR -/

/-- `ConstantGaps` (R173). -/
def State.constantGaps (s : State) (c num b : Nat) : Res (List Word × Nat) := do
  let n := ceilDiv b 8
  s.need (c + 1) n
  let v ← s.region (c + 1) n
  .ok (List.replicate num (BitVec.ofNat 32 (v % 2 ^ b)), c + 1 + n)

/-- `ForGaps` (R174, R175). -/
def State.forGaps (s : State) (c num b : Nat) (il : Bool) : Res (List Word × Nat) := do
  let size := packedSize s.params.bs num b il
  s.need (c + 1) size
  let g ← s.gaps (c + 1) num b il
  .ok (g, c + 1 + size)

/-! ### PFOR_BITMAP -/

/-- The positions whose bitmap bit is set, rising; bits at or above `num` are ignored (R176). -/
def bitmapPositions (bitmap num : Nat) : List Nat := (List.range num).filter fun k => bitmap.testBit k

/-- `PforBitmapGaps` from the bitmap on, `E` being the legal exception width (R176, R177). -/
def State.pforBitmapBody (s : State) (c num b E : Nat) (il : Bool) : Res (List Word × Nat) := do
  let nbm := if il then s.params.bs / 8 else ceilDiv num 8
  s.need (c + 2) nbm
  let bitmap ← s.region (c + 2) nbm
  let pos := bitmapPositions bitmap num
  if pos.length ≠ 0 ∧ b = 32 then raise .excShift c
  else
    let ce := c + 2 + nbm
    let ne := ceilDiv (pos.length * E) 8
    s.need ce ne
    let cb := ce + ne
    let nb := packedSize s.params.bs num b il
    s.need cb nb
    let g ← s.gaps cb num b il
    let hs ← s.gaps ce pos.length E false
    .ok (orAll b g (pos.zip hs), cb + nb)

/-- `PforBitmapGaps` (R176, R177). -/
def State.pforBitmapGaps (s : State) (c num b : Nat) (il : Bool) : Res (List Word × Nat) := do
  s.need (c + 1) 1
  let e ← s.byteAt (c + 1)
  if 32 < e.toNat then raise .badWidth (c + 1)
  else s.pforBitmapBody c num b e.toNat il

/-! ### PFOR_VB -/

/-- The base values of a PFOR_VB block with `n` exceptions, and where its exception area begins (R178, R179). -/
def State.pforVbBase (s : State) (c num b n : Nat) (il : Bool) : Res (List Word × Nat) := do
  if n ≠ 0 ∧ b = 32 then raise .excShift c
  else
    let nb := packedSize s.params.bs num b il
    s.need (c + 2) nb
    let g ← s.gaps (c + 2) num b il
    .ok (g, c + 2 + nb)

/-- `ExcArea(e, 0)` (R180): where an empty exception area ends, by VB_EMPTY_SELECTOR. -/
def State.excEmpty (s : State) (e : Nat) : Res Nat :=
  match s.params.vbEmpty with
  | .noRead => .ok e
  | .faultOnFf =>
    if e < s.inLen.toNat then do
      let x ← s.byteAt e
      if x = 0xFF#8 then raise .vbEmptyAmbig e else .ok e
    else .ok e
  | .consume =>
    if e < s.inLen.toNat then do
      let x ← s.byteAt e
      if x = 0xFF#8 then .ok (e + 1) else .ok e
    else .ok e

/-- `n` escape-form values from `e` on (R180). -/
def State.escValues (s : State) (e : Nat) : Nat → Res (List Word × Nat)
  | 0 => .ok ([], e)
  | n + 1 => do
    let v ← s.memRead e 4
    let (vs, e') ← s.escValues (e + 4) n
    .ok (BitVec.ofNat 32 v :: vs, e')

/-- `n` vb scalars from `e` on (R180). -/
def State.vbValues (s : State) (e : Nat) : Nat → Res (List Word × Nat)
  | 0 => .ok ([], e)
  | n + 1 => do
    let (v, len) ← s.decodeVb e
    let (vs, e') ← s.vbValues (e + len) n
    .ok (v :: vs, e')

/-- `ExcArea(e, N)` (R180). -/
def State.excArea (s : State) (e n : Nat) : Res (List Word × Nat) :=
  if n = 0 then do
    let e' ← s.excEmpty e
    .ok ([], e')
  else do
    s.need e 1
    let x ← s.byteAt e
    if x = 0xFF#8 then s.escValues (e + 1) n else s.vbValues e n

/-- The index loop of R178: index byte `k` at `e + k` says where exception `xs[k]` goes. -/
def State.patchFrom (s : State) (num b : Nat) (g : List Word) (e : Nat) : List Word → Res (List Word × Nat)
  | [] => .ok (g, e)
  | x :: xs => do
    let idx ← s.byteAt e
    if num ≤ idx.toNat then raise .excIndex e
    else s.patchFrom num b (orAt g idx.toNat (x <<< b)) (e + 1) xs

/-- The index bytes of a PFOR_VB block (R178): all must lie below IN_LEN before any is used. -/
def State.pforVbPatch (s : State) (num b : Nat) (g xs : List Word) (e : Nat) : Res (List Word × Nat) := do
  s.need e xs.length
  s.patchFrom num b g e xs

/-- `PforVbGaps` (R178, R179). -/
def State.pforVbGaps (s : State) (c num b : Nat) (il : Bool) : Res (List Word × Nat) := do
  s.need (c + 1) 1
  let n ← s.byteAt (c + 1)
  let (g, e0) ← s.pforVbBase c num b n.toNat il
  let (xs, e) ← s.excArea e0 n.toNat
  s.pforVbPatch num b g xs e

/-! ### The dispatcher -/

/-- The stored gaps of the block of type `ty` (R171). -/
def State.blockGaps (s : State) (ty : BlockType) (c num b : Nat) (useIL : Bool) : Res (List Word × Nat) :=
  match ty with
  | .constant => s.constantGaps c num b
  | .for_ => s.forGaps c num b useIL
  | .pforBitmap => s.pforBitmapGaps c num b useIL
  | .pforVb => s.pforVbGaps c num b useIL

/-- `DecodeBlock(c, num, il, prev) → (out, c_end)` (R171), `1 ≤ num ≤ BS`. -/
def State.decodeBlock (s : State) (c num : Nat) (il : Bool) (prev : Word) : Res (List Word × Nat) := do
  s.need c 1
  let h ← s.byteAt c
  let ty := decodeType h
  let b := (h.extractLsb' 0 6).toNat
  let useIL := il && decide (num = s.params.bs) && decide (ty ≠ .constant)
  if 32 < b then raise .badWidth c
  else
    let (g, e) ← s.blockGaps ty c num b useIL
    .ok (scan prev g, e)

/-! ### The commands -/

/-- What BLOCK and SEQ stage: `out` written at OUT_IDX, the cursor at `e`, PREV the last identifier (R183, R210). -/
def State.commitIds (s : State) (out : List Word) (e : Nat) : State :=
  { s.writeOut out with
    prev := out.getLastD s.prev
    cur := BitVec.ofNat 32 e
    outIdx := BitVec.ofNat 32 (s.outIdx.toNat + s.count.toNat)
    consumed := BitVec.ofNat 32 (e - s.cur.toNat) }

/-- The OBUF words `o … o + n − 1`; a word never written stops the model (R62). -/
def State.wordsAt (s : State) (o : Nat) : Nat → Res (List Word)
  | 0 => .ok []
  | n + 1 =>
    match s.obuf.read o with
    | none => .error (.model (.unwrittenWord o))
    | some w => do
      let ws ← s.wordsAt (o + 1) n
      .ok (w :: ws)

/-- SCAN's pseudocode (R182). Each word is read before it is written, and only its own slot is (R90). -/
def State.scanCmd (s : State) : Res State := do
  s.checkOut s.count.toNat
  let g ← s.wordsAt s.outIdx.toNat s.count.toNat
  let out := scan s.prev g
  .ok { s.writeOut out with
    prev := out.getLastD s.prev
    outIdx := BitVec.ofNat 32 (s.outIdx.toNat + s.count.toNat)
    consumed := 0 }

/-- The checks BLOCK makes before it reads the stream (R183, R230). -/
def State.blockChecks (s : State) : Res Unit := do
  s.checkInLen
  if s.count.toNat = 0 ∨ s.params.bs < s.count.toNat then raise .badParam s.cur.toNat
  else s.checkOut s.count.toNat

/-- BLOCK's pseudocode (R183). -/
def State.blockCmd (s : State) (il : Bool) : Res State := do
  s.blockChecks
  let (out, e) ← s.decodeBlock s.cur.toNat s.count.toNat il s.prev
  .ok (s.commitIds out e)

/-- SCAN (R182). -/
def execScan (_il : Bool) (s : State) : Host.Outcome State Fault Refusal := s.finish s.count.toNat s.scanCmd

/-- BLOCK with IL = 0 (R183). -/
def execBlock (s : State) : Host.Outcome State Fault Refusal := s.finish s.count.toNat (s.blockCmd false)

/-- BLOCK with IL = 1 (R183). -/
def execBlockIl (s : State) : Host.Outcome State Fault Refusal := s.finish s.count.toNat (s.blockCmd true)

end Sys2Proof.Machine
end

