-- ==== Sys2Proof/Machine/Sequence.lean ====
section
/-! DEFINITION. The sequence driver (spec/43_sequence.md): SEQ. -/

namespace Sys2Proof.Machine

/-- The block loop of R210 with `m` identifiers left, `k` bounding its turns: the identifiers and the end cursor. -/
def State.seqBlocks (s : State) (il : Bool) : Nat → Nat → Nat → Word → Res (List Word × Nat)
  | 0, _, cur, _ => .ok ([], cur)
  | k + 1, m, cur, prev =>
    if m = 0 then .ok ([], cur)
    else do
      let nb := min m s.params.bs
      let (blk, cur') ← s.decodeBlock cur nb il prev
      let (rest, e) ← s.seqBlocks il k (m - nb) cur' (blk.getLastD prev)
      .ok (blk ++ rest, e)

/-- The whole sequence of `n ≥ 1` identifiers at `c` (R210): the seed, then `ceil_div(n − 1, BS)` blocks (R211). -/
def State.decodeSeq (s : State) (c n : Nat) (il : Bool) : Res (List Word × Nat) := do
  let (v, len) ← s.decodeBaseval c
  let (ids, e) ← s.seqBlocks il (ceilDiv (n - 1) s.params.bs) (n - 1) (c + len) v
  .ok (v :: ids, e)

/-- The checks SEQ makes before it reads the stream (R210, R230). -/
def State.seqChecks (s : State) : Res Unit := do
  s.checkInLen
  s.checkOut s.count.toNat

/-- SEQ's pseudocode (R210). -/
def State.seqCmd (s : State) (il : Bool) : Res State := do
  s.seqChecks
  if s.count.toNat = 0 then .ok { s with consumed := 0 }
  else
    let (out, e) ← s.decodeSeq s.cur.toNat s.count.toNat il
    .ok (s.commitIds out e)

/-- SEQ with IL = 0 (R210). -/
def execSeq (s : State) : Host.Outcome State Fault Refusal := s.finish s.count.toNat (s.seqCmd false)

/-- SEQ with IL = 1 (R210). -/
def execSeqIl (s : State) : Host.Outcome State Fault Refusal := s.finish s.count.toNat (s.seqCmd true)

end Sys2Proof.Machine
end

