-- ==== Sys2Proof/Machine/StreamItems.lean ====
section
/-! DEFINITION. The stream items as instructions: what one header, BEXC byte, exception-area byte or scalar does to the
command in flight (spec/40_scalar.md R132, R134, spec/42_blocks.md R171–R180, spec/43_sequence.md R210). Each is built
from the same operand decoders as the commands. -/

namespace Sys2Proof.Machine

/-! ### Shared by the items -/

/-- The positions of the block being decoded (R211; COUNT for BLOCK). -/
def Run.num (bs : Nat) (r : Run) : Nat := min r.todo bs

/-- R171's `useIL`, but for the type: IL = 1 and num = BS. -/
def Run.useIL (bs : Nat) (r : Run) : Bool := r.il && decide (r.num bs = bs)

/-- The format the next stream byte is read in (R216). -/
def Run.format (bs : Nat) (r : Run) : Format :=
  match r.expect with
  | .scalarBaseval | .seed => .basevalByte
  | .scalarVb => .vbByte
  | .header => .hdr (r.useIL bs)
  | .bexc _ _ _ _ => .bexc
  | .excArea _ _ _ _ => .excArea
  | .excVb _ _ _ _ _ => .vbByte

/-- After a seed or a block: the next block's header, or, with nothing left to decode, the staged results. -/
def State.nextBlock (s : State) (r : Run) : Progress :=
  if r.todo = 0 then .finished (s.commitIds r.out r.cur) else .more { r with expect := .header }

/-- A block's stored gaps `ge.1`, ending at `ge.2`, are scanned and joined to the identifiers (R171, R210). -/
def State.endBlock (s : State) (r : Run) (ge : List Word × Nat) : Progress :=
  let blk := scan r.prev ge.1
  s.nextBlock { r with
    cur := ge.2
    prev := blk.getLastD r.prev
    out := r.out ++ blk
    todo := r.todo - r.num s.params.bs }

/-- A baseval scalar: BASEVAL's result (R133), or SEQ's seed (R210, R214). -/
def State.basevalItem (s : State) (form : Nat → Res (Word × Nat)) : Host.Outcome State Fault Refusal :=
  s.runItem fun r =>
    match r.expect with
    | .scalarBaseval => do
      let (v, len) ← form r.cur
      .ok (.finished (s.commitScalar v len))
    | .seed => do
      let (v, len) ← form r.cur
      .ok (s.nextBlock { r with cur := r.cur + len, prev := v, out := [v], todo := r.todo - 1 })
    | _ => unexpected

/-- A vb scalar: VB's result (R135), or the next exception value; the last one is followed by the index bytes (R178). -/
def State.vbItem (s : State) (form : Nat → Res (Word × Nat)) : Host.Outcome State Fault Refusal :=
  s.runItem fun r =>
    match r.expect with
    | .scalarVb => do
      let (v, len) ← form r.cur
      .ok (.finished (s.commitScalar v len))
    | .excVb num b n g xs => do
      let (v, len) ← form r.cur
      if xs.length + 1 = n then
        let ge ← s.pforVbPatch num b g (xs ++ [v]) (r.cur + len)
        .ok (s.endBlock r ge)
      else .ok (.more { r with cur := r.cur + len, expect := .excVb num b n g (xs ++ [v]) })
    | _ => unexpected

/-- A header of the flavour `il` (R171). CONSTANT and BAD_WIDTH headers have one flavour, `none`. -/
def State.headerItem (s : State) (il : Option Bool) (block : Run → Res Progress) :
    Host.Outcome State Fault Refusal :=
  s.runItem fun r =>
    if r.expect = .header ∧ (il = none ∨ il = some (r.useIL s.params.bs)) then block r else unexpected

/-- A FOR header (R174, R175). -/
def State.forItem (s : State) (il : Bool) (b : Nat) : Host.Outcome State Fault Refusal :=
  s.headerItem (some il) fun r => do
    let ge ← s.forGaps r.cur (r.num s.params.bs) b il
    .ok (s.endBlock r ge)

/-- A CONSTANT header (R173). -/
def State.constantItem (s : State) (b : Nat) : Host.Outcome State Fault Refusal :=
  s.headerItem none fun r => do
    let ge ← s.constantGaps r.cur (r.num s.params.bs) b
    .ok (s.endBlock r ge)

/-- A PFOR_BITMAP header (R176, R177): the BEXC byte follows it. -/
def State.pforBitmapItem (s : State) (il : Bool) (b : Nat) : Host.Outcome State Fault Refusal :=
  s.headerItem (some il) fun r =>
    .ok (.more { r with cur := r.cur + 1, expect := .bexc r.cur (r.num s.params.bs) b il })

/-- A legal BEXC byte `E` (R176): the rest of its block. -/
def State.bexcItem (s : State) (E : Nat) : Host.Outcome State Fault Refusal :=
  s.runItem fun r =>
    match r.expect with
    | .bexc hdr num b il => do
      let ge ← s.pforBitmapBody hdr num b E il
      .ok (s.endBlock r ge)
    | _ => unexpected

/-- A PFOR_VB header (R178, R179): NEXC and the base values; then the exception area, unless it is empty (R180). -/
def State.pforVbItem (s : State) (il : Bool) (b : Nat) : Host.Outcome State Fault Refusal :=
  s.headerItem (some il) fun r => do
    s.need (r.cur + 1) 1
    let n ← s.byteAt (r.cur + 1)
    let (g, e0) ← s.pforVbBase r.cur (r.num s.params.bs) b n.toNat il
    if n.toNat = 0 then
      let e ← s.excEmpty e0
      let ge ← s.pforVbPatch (r.num s.params.bs) b g [] e
      .ok (s.endBlock r ge)
    else .ok (.more { r with cur := e0, expect := .excArea (r.num s.params.bs) b n.toNat g })

/-! ### Block headers -/

/-- FOR, b 0–31 (R174). -/
def execFor (b : BitVec 5) (s : State) : Host.Outcome State Fault Refusal := s.forItem false b.toNat

/-- FOR, b = 32 (R174). -/
def execFor32 (s : State) : Host.Outcome State Fault Refusal := s.forItem false 32

/-- PFOR_VB, b 0–31 (R178). -/
def execPforVb (b : BitVec 5) (s : State) : Host.Outcome State Fault Refusal := s.pforVbItem false b.toNat

/-- PFOR_VB, b = 32 (R178): with an exception it faults EXC_SHIFT (R181). -/
def execPforVb32 (s : State) : Host.Outcome State Fault Refusal := s.pforVbItem false 32

/-- PFOR_BITMAP, b 0–31 (R176). -/
def execPforBitmap (b : BitVec 5) (s : State) : Host.Outcome State Fault Refusal := s.pforBitmapItem false b.toNat

/-- PFOR_BITMAP, b = 32 (R176): with an exception its BEXC item faults EXC_SHIFT (R181). -/
def execPforBitmap32 (s : State) : Host.Outcome State Fault Refusal := s.pforBitmapItem false 32

/-- CONSTANT, b 0–31 (R173). -/
def execConstant (b : BitVec 5) (s : State) : Host.Outcome State Fault Refusal := s.constantItem b.toNat

/-- CONSTANT, b = 32 (R173). -/
def execConstant32 (s : State) : Host.Outcome State Fault Refusal := s.constantItem 32

/-- FOR interleaved, b 0–31 (R175). -/
def execForIl (b : BitVec 5) (s : State) : Host.Outcome State Fault Refusal := s.forItem true b.toNat

/-- FOR interleaved, b = 32 (R175). -/
def execForIl32 (s : State) : Host.Outcome State Fault Refusal := s.forItem true 32

/-- PFOR_VB interleaved, b 0–31 (R179). -/
def execPforVbIl (b : BitVec 5) (s : State) : Host.Outcome State Fault Refusal := s.pforVbItem true b.toNat

/-- PFOR_VB interleaved, b = 32 (R179). -/
def execPforVbIl32 (s : State) : Host.Outcome State Fault Refusal := s.pforVbItem true 32

/-- PFOR_BITMAP interleaved, b 0–31 (R177). -/
def execPforBitmapIl (b : BitVec 5) (s : State) : Host.Outcome State Fault Refusal := s.pforBitmapItem true b.toNat

/-- PFOR_BITMAP interleaved, b = 32 (R177). -/
def execPforBitmapIl32 (s : State) : Host.Outcome State Fault Refusal := s.pforBitmapItem true 32

/-- A header with b 33–63 (R172): BAD_WIDTH at the header byte. -/
def execBadWidth (_ty : BlockType) (_b : BitVec 6) (s : State) : Host.Outcome State Fault Refusal :=
  s.headerItem none fun r => raise .badWidth r.cur

/-! ### BEXC bytes -/

/-- BEXC, b_exc 0–31 (R176). -/
def execBexc (e : BitVec 5) (s : State) : Host.Outcome State Fault Refusal := s.bexcItem e.toNat

/-- BEXC, b_exc = 32 (R176). -/
def execBexc32 (s : State) : Host.Outcome State Fault Refusal := s.bexcItem 32

/-- BEXC, b_exc 33–255 (R172, R176): BAD_WIDTH at the BEXC byte. -/
def execBadWidthExc (_e : Byte) (s : State) : Host.Outcome State Fault Refusal :=
  s.runItem fun r =>
    match r.expect with
    | .bexc _ _ _ _ => raise .badWidth r.cur
    | _ => unexpected

/-! ### Baseval scalars -/

/-- 1-byte baseval (R132). -/
def execBaseval1 (v : BitVec 7) (s : State) : Host.Outcome State Fault Refusal :=
  s.basevalItem fun _ => .ok (basevalForm1 (Instr.baseval1 v).firstByte)

/-- 2-byte baseval (R132). -/
def execBaseval2 (vHi : BitVec 6) (s : State) : Host.Outcome State Fault Refusal :=
  s.basevalItem fun c => s.basevalForm2 c (Instr.baseval2 vHi).firstByte

/-- 3-byte baseval (R132). -/
def execBaseval3 (vHi : BitVec 5) (s : State) : Host.Outcome State Fault Refusal :=
  s.basevalItem fun c => s.basevalForm3 c (Instr.baseval3 vHi).firstByte

/-- Reserved baseval first byte (R223): BASEVAL_RSV at it, whatever follows. -/
def execBasevalRsv (_low : BitVec 5) (s : State) : Host.Outcome State Fault Refusal :=
  s.basevalItem fun c => raise .basevalRsv c

/-! ### Vb scalars -/

/-- 1-byte vb (R134). -/
def execVb1 (x : Byte) (s : State) : Host.Outcome State Fault Refusal := s.vbItem fun _ => .ok (vbForm1 x)

/-- 2-byte vb (R134). -/
def execVb2 (x : Byte) (s : State) : Host.Outcome State Fault Refusal := s.vbItem fun c => s.vbForm2 c x

/-- 3-byte vb (R134). -/
def execVb3 (x : Byte) (s : State) : Host.Outcome State Fault Refusal := s.vbItem fun c => s.vbForm3 c x

/-- 4-byte vb (R134). -/
def execVb4 (s : State) : Host.Outcome State Fault Refusal := s.vbItem fun c => s.vbForm4 c

/-- 5-byte vb (R134). -/
def execVb5 (s : State) : Host.Outcome State Fault Refusal := s.vbItem fun c => s.vbForm5 c

/-- Reserved vb first byte (R223): VB_RSV at it, whatever follows. -/
def execVbRsv (_x : Byte) (s : State) : Host.Outcome State Fault Refusal := s.vbItem fun c => raise .vbRsv c

/-! ### The exception area -/

/-- Escape form (R180): 0xFF, the values, and the index bytes after them (R178). -/
def execExcEsc (s : State) : Host.Outcome State Fault Refusal :=
  s.runItem fun r =>
    match r.expect with
    | .excArea num b n g => do
      let (xs, e) ← s.escValues (r.cur + 1) n
      let ge ← s.pforVbPatch num b g xs e
      .ok (s.endBlock r ge)
    | _ => unexpected

/-- Vb form (R180): the byte is the first scalar's own, so the cursor stays (R109). -/
def execExcVb (_x : Byte) (s : State) : Host.Outcome State Fault Refusal :=
  s.runItem fun r =>
    match r.expect with
    | .excArea num b n g => .ok (.more { r with expect := .excVb num b n g [] })
    | _ => unexpected

end Sys2Proof.Machine
end

