-- ==== Sys2Proof/Machine/Host.lean ====
section
/-! DEFINITION. The host's and the platform's moves: register, IBUF and OBUF accesses (spec/10_state.md,
spec/20_memory.md), accepting a command (spec/60_exceptions.md R241) and the two resets (spec/70_reset_and_hazards.md). -/

namespace Sys2Proof

/-! ### Registers and spaces -/

/-- The registers that read as an unspecified value while BUSY (R63). -/
def Reg.unstable : Reg → Bool
  | .cur | .outIdx | .prev | .resultLo | .resultHi | .errOff | .consumed => true
  | .config | .ctrl | .cmd | .status | .inLen | .count | .bw | .reserved => false

/-- The registers whose write while BUSY is lost and sets OVR (R234). -/
def Reg.guarded : Reg → Bool
  | .cmd | .cur | .inLen | .count | .outIdx | .prev | .bw | .status => true
  | .config | .ctrl | .resultLo | .resultHi | .errOff | .consumed | .reserved => false

/-- Where a space begins (R72). -/
def Space.base (p : Params) : Space → Nat
  | .reg => p.regBase
  | .ibuf => p.ibufBase
  | .obuf => p.obufBase

/-- The access widths and alignment R60 and R78 allow. A register's alignment is that of its offset: REG_BASE may be
any address (R8). Log 9. -/
def Space.allows (p : Params) (sp : Space) (addr width : Nat) : Bool :=
  match sp with
  | .reg => decide (width = 4) && decide (addr % 4 = p.regBase % 4)
  | .ibuf => decide (width = 1)
  | .obuf => decide (width = 4)

/-- How many addresses a space has (R70–R72). -/
def Space.size (p : Params) : Space → Nat
  | .reg => 256
  | .ibuf => p.inCap
  | .obuf => p.outCap

/-! ### The host's statements (R119) -/

/-- The byte offset of a register (R33); `reserved` stands for the first reserved offset. -/
def Reg.offset : Reg → Nat
  | .config => 0x00
  | .ctrl => 0x04
  | .cmd => 0x08
  | .status => 0x0C
  | .cur => 0x10
  | .inLen => 0x14
  | .count => 0x18
  | .outIdx => 0x1C
  | .prev => 0x20
  | .bw => 0x24
  | .resultLo => 0x28
  | .resultHi => 0x2C
  | .errOff => 0x30
  | .consumed => 0x34
  | .reserved => 0x38

/-- `wr REG, V`, at REG_BASE + offset (R33). -/
def HostOp.wr (p : Params) (r : Reg) (v : Word) : HostOp := .write .reg (p.regBase + r.offset) 4 v

/-- `rd REG`, at REG_BASE + offset (R33). -/
def HostOp.rd (p : Params) (r : Reg) : HostOp := .read .reg (p.regBase + r.offset) 4

/-- `ib[A] = bytes …`. -/
def HostOp.ib (p : Params) (a : Nat) : List Byte → List HostOp
  | [] => []
  | x :: xs => .write .ibuf (p.ibufBase + a) 1 (x.setWidth 32) :: HostOp.ib p (a + 1) xs

/-- `ob[K] = V`. -/
def HostOp.ob (p : Params) (k : Nat) (v : Word) : HostOp := .write .obuf (p.obufBase + k) 4 v

/-- `cmd OP [il]`. -/
def HostOp.cmd (p : Params) (i : Instr) : HostOp := .wr p .cmd (encode i)

/-- `clr`: clear DONE, ERR and OVR. -/
def HostOp.clr (p : Params) : HostOp := .wr p .status 0x0000000E

/-- `run OP [il]`. -/
def HostOp.run (p : Params) (i : Instr) : List HostOp := [.cmd p i, .wait]

end Sys2Proof

namespace Sys2Proof.Machine

/-! ### Accepting a command -/

/-- The command-local state a command starts with when it proceeds item by item (R32, R52): none for a command with no
stream item, and none where a check before the stream fails or nothing is to be decoded. -/
def State.startRun (s : State) (w : Word) : Option Run :=
  match decodeCmd w with
  | .baseval _ => if s.checkInLen = .ok () then some ⟨s.cur.toNat, 0, [], 0, false, .scalarBaseval⟩ else none
  | .vb _ => if s.checkInLen = .ok () then some ⟨s.cur.toNat, 0, [], 0, false, .scalarVb⟩ else none
  | .block => if s.blockChecks = .ok () then some ⟨s.cur.toNat, s.prev, [], s.count.toNat, false, .header⟩ else none
  | .blockIl => if s.blockChecks = .ok () then some ⟨s.cur.toNat, s.prev, [], s.count.toNat, true, .header⟩ else none
  | .seq =>
    if s.seqChecks = .ok () ∧ s.count.toNat ≠ 0 then some ⟨s.cur.toNat, 0, [], s.count.toNat, false, .seed⟩ else none
  | .seqIl =>
    if s.seqChecks = .ok () ∧ s.count.toNat ≠ 0 then some ⟨s.cur.toNat, 0, [], s.count.toNat, true, .seed⟩ else none
  | .ldle _ | .unpack _ | .unpackIl _ | .scan _ | .illegalOp0 _ | .illegalOp9 _ | .illegalOpAB _ _
    | .illegalOpCF _ _ => none
  | .illegalRsv5 _ _ | .illegalRsv6 _ _ | .illegalRsv7 _ _ | .illegalRsv8 _ _ | .illegalRsv9 _ _
    | .illegalRsv10 _ _ | .illegalRsv11 _ _ | .illegalRsv12 _ _ | .illegalRsv13 _ _
    | .illegalRsv14 _ _ | .illegalRsv15 _ _ | .illegalRsv16 _ _ | .illegalRsv17 _ _
    | .illegalRsv18 _ _ | .illegalRsv19 _ _ | .illegalRsv20 _ _ | .illegalRsv21 _ _
    | .illegalRsv22 _ _ | .illegalRsv23 _ _ | .illegalRsv24 _ _ | .illegalRsv25 _ _
    | .illegalRsv26 _ _ | .illegalRsv27 _ _ | .illegalRsv28 _ _ | .illegalRsv29 _ _
    | .illegalRsv30 _ _ | .illegalRsv31 _ => none
  | .for_ _ | .for32 | .pforVb _ | .pforVb32 | .pforBitmap _ | .pforBitmap32 | .constant _
    | .constant32 => none
  | .forIl _ | .forIl32 | .pforVbIl _ | .pforVbIl32 | .pforBitmapIl _ | .pforBitmapIl32 => none
  | .badWidth _ _ | .bexc _ | .bexc32 | .badWidthExc _ | .baseval1 _ | .baseval2 _ | .baseval3 _
    | .basevalRsv _ | .vb1 _ | .vb2 _ | .vb3 _ | .vb4 | .vb5 | .vbRsv _ | .excEsc | .excVb _ => none

/-- The engine takes the word `w` (R241): BUSY, DONE, ERR and ERRCODE cleared, OVR kept. It acts after `left` steps. -/
def State.beginCommand (s : State) (w : Word) (left : Nat) (run : Option Run) : State :=
  { s.flagsOnAccept with engine := .busy w left run }

/-- A CMD write accepted in the IDLE phase (R241): the latency and the granularity are free (log 1, log 2). -/
def State.accept (s : State) (w : Word) : State :=
  { s.beginCommand w (Config.latency s.draws) (if Config.itemwise s.draws then s.startRun w else none) with
    draws := s.draws + 1 }

/-! ### Resets -/

/-- Soft reset (R252), in either phase; the write set of an aborted command takes any value (R253, log 8). -/
def State.softReset (s : State) : State :=
  let t := s.scramble s.runningWriteSet
  { State.reset with
    params := t.params
    ibuf := t.ibuf
    obuf := t.obuf
    draws := t.draws
    hostQ := t.hostQ
    readData := t.readData }

/-- Power-on reset (R251): IBUF and OBUF hold no value. -/
def State.powerOn (s : State) : State :=
  { State.reset with
    params := s.params
    draws := s.draws
    hostQ := s.hostQ
    readData := s.readData }

/-! ### Registers -/

/-- The register at a byte offset of REG (R33, R58). -/
def regAt (off : Nat) : Reg :=
  match off / 4 with
  | 0 => .config
  | 1 => .ctrl
  | 2 => .cmd
  | 3 => .status
  | 4 => .cur
  | 5 => .inLen
  | 6 => .count
  | 7 => .outIdx
  | 8 => .prev
  | 9 => .bw
  | 10 => .resultLo
  | 11 => .resultHi
  | 12 => .errOff
  | 13 => .consumed
  | _ => .reserved

/-- What a register reads as while IDLE (R33–R51, R58, R59). -/
def State.regValue (s : State) : Reg → Word
  | .config => s.configWord
  | .ctrl => s.ctrlWord
  | .cmd => 0
  | .status => s.statusWord
  | .cur => s.cur
  | .inLen => s.inLen
  | .count => s.count
  | .outIdx => s.outIdx
  | .prev => s.prev
  | .bw => s.bw.setWidth 32
  | .resultLo => s.resultLo
  | .resultHi => s.resultHi
  | .errOff => s.errOff
  | .consumed => s.consumed
  | .reserved => 0

/-- A read returns `v`; no read has another effect (R80). -/
def State.answer (s : State) (v : Word) : State := { s with readData := some v }

/-- A read returns any word. -/
def State.answerFree (s : State) : State :=
  { s with readData := some (Config.freeWord s.draws), draws := s.draws + 1 }

/-- A host read of a register (R63, R80). -/
def State.readReg (s : State) (r : Reg) : State :=
  if s.busy && r.unstable then s.answerFree else s.answer (s.regValue r)

/-- A CTRL write (R35), in either phase: SRST resets whatever else the write carries (R252). -/
def State.writeCtrl (s : State) (v : Word) : State :=
  if v.getLsbD 1 then s.softReset else { s with ie := v.getLsbD 0 }

/-- A host write lost while BUSY (R234). -/
def State.overrun (s : State) : State := { s with ovr := true }

/-- A host write of a register in the IDLE phase (R33–R51). -/
def State.writeRegIdle (s : State) (r : Reg) (v : Word) : State :=
  match r with
  | .ctrl => s.writeCtrl v
  | .cmd => s.accept v
  | .status => s.clearStatus v
  | .cur => { s with cur := v }
  | .inLen => { s with inLen := v }
  | .count => { s with count := v }
  | .outIdx => { s with outIdx := v }
  | .prev => { s with prev := v }
  | .bw => { s with bw := v.setWidth 6 }
  | .config | .resultLo | .resultHi | .errOff | .consumed | .reserved => s

/-- A host write of a register (R234, R241). -/
def State.writeReg (s : State) (r : Reg) (v : Word) : State :=
  if s.busy && r.guarded then s.overrun else s.writeRegIdle r v

/-! ### IBUF and OBUF -/

/-- A host read of an IBUF byte (R91); one never written reads as any value (R62, log 11). -/
def State.readIbuf (s : State) (a : Nat) : State :=
  match s.ibuf.read a with
  | some x => s.answer (x.setWidth 32)
  | none => { s with readData := some ((Config.freeByte s.draws).setWidth 32), draws := s.draws + 1 }

/-- A host read of an OBUF word: any value while BUSY (R91), or where none was written (R62, log 11). -/
def State.readObuf (s : State) (k : Nat) : State :=
  if s.busy then s.answerFree
  else
    match s.obuf.read k with
    | some w => s.answer w
    | none => s.answerFree

/-- A host write of an IBUF byte (R70, R91). -/
def State.writeIbuf (s : State) (a : Nat) (x : Byte) : State :=
  if s.busy then s.overrun else { s with ibuf := s.ibuf.write a x }

/-- A host write of an OBUF word (R71, R91). -/
def State.writeObuf (s : State) (k : Nat) (w : Word) : State :=
  if s.busy then s.overrun else { s with obuf := s.obuf.write k w }

/-! ### One move -/

/-- A host access: refused in a width or alignment not allowed, a fault outside the space, else `access` of its place
in the space, counted from the base (R72, log 9). -/
def State.hostAccess (s : State) (sp : Space) (addr width : Nat) (access : Nat → State) :
    Host.Outcome State Fault Refusal :=
  if sp.allows s.params addr width then
    if sp.base s.params ≤ addr ∧ addr < sp.base s.params + sp.size s.params then
      .next (access (addr - sp.base s.params))
    else .fault (.noSuchAddress sp addr)
  else .refused (.busError sp addr width)

/-- A host read by space, at its place `a` there. -/
def State.hostRead (s : State) (sp : Space) (a : Nat) : State :=
  match sp with
  | .reg => s.readReg (regAt a)
  | .ibuf => s.readIbuf a
  | .obuf => s.readObuf a

/-- A host write by space, at its place `a` there. -/
def State.hostWrite (s : State) (sp : Space) (a : Nat) (v : Word) : State :=
  match sp with
  | .reg => s.writeReg (regAt a) v
  | .ibuf => s.writeIbuf a (v.setWidth 8)
  | .obuf => s.writeObuf a v

/-- One step of the time a BUSY engine leaves to the host (log 2). -/
def State.tick (s : State) : State :=
  match s.engine with
  | .idle => s
  | .busy w left run => { s with engine := .busy w (left - 1) run }

/-- The host's move `op`; `s` no longer lists it (R84). A `wait` that has to go on stays at the head of the list. -/
def State.hostMove (s : State) (op : HostOp) : Host.Outcome State Fault Refusal :=
  match op with
  | .read sp addr width => s.hostAccess sp addr width (s.hostRead sp)
  | .write sp addr width v => s.hostAccess sp addr width fun a => s.hostWrite sp a v
  | .wait =>
    if s.done then .next (s.readReg .status)
    else .next { s.readReg .status with hostQ := .wait :: s.hostQ }
  | .waitIrq => if s.irq then .next s else .next { s with hostQ := .waitIrq :: s.hostQ }
  | .powerOn => .next s.powerOn

/-- The host's turn: its next move if it has one. With none, an IDLE engine runs nothing (R254). -/
def State.hostTurn (s : State) : Host.Outcome State Fault Refusal :=
  match s.hostQ with
  | [] => .next s.tick
  | op :: rest => { s.tick with hostQ := rest }.hostMove op

end Sys2Proof.Machine
end

