-- ==== Sys2Proof/Machine/Illegal.lean ====
section
/-! DEFINITION. The illegal command words (spec/60_exceptions.md R226 item 1): each is accepted like any other and takes
the fault ILLEGAL_CMD at CUR (R103, R241). -/

namespace Sys2Proof.Machine

/-- `raise Fault(ILLEGAL_CMD, c0)` (R241): the write set is empty. -/
def State.illegalCmd (s : State) : Host.Outcome State Fault Refusal :=
  .next (s.faultEntry .illegalCmd s.cur.toNat 0)

/-- OP 0x0. -/
def execIllegalOp0 (_il : Bool) (s : State) : Host.Outcome State Fault Refusal := s.illegalCmd

/-- OP 0x9. -/
def execIllegalOp9 (_il : Bool) (s : State) : Host.Outcome State Fault Refusal := s.illegalCmd

/-- OP 0xA–0xB. -/
def execIllegalOpAB (_il : Bool) (_lo : BitVec 1) (s : State) : Host.Outcome State Fault Refusal := s.illegalCmd

/-- OP 0xC–0xF. -/
def execIllegalOpCF (_il : Bool) (_lo : BitVec 2) (s : State) : Host.Outcome State Fault Refusal := s.illegalCmd

/-- RSV bit 5. -/
def execIllegalRsv5 (_hi : BitVec 26) (_low : BitVec 5) (s : State) : Host.Outcome State Fault Refusal := s.illegalCmd

/-- RSV bit 6. -/
def execIllegalRsv6 (_hi : BitVec 25) (_low : BitVec 5) (s : State) : Host.Outcome State Fault Refusal := s.illegalCmd

/-- RSV bit 7. -/
def execIllegalRsv7 (_hi : BitVec 24) (_low : BitVec 5) (s : State) : Host.Outcome State Fault Refusal := s.illegalCmd

/-- RSV bit 8. -/
def execIllegalRsv8 (_hi : BitVec 23) (_low : BitVec 5) (s : State) : Host.Outcome State Fault Refusal := s.illegalCmd

/-- RSV bit 9. -/
def execIllegalRsv9 (_hi : BitVec 22) (_low : BitVec 5) (s : State) : Host.Outcome State Fault Refusal := s.illegalCmd

/-- RSV bit 10. -/
def execIllegalRsv10 (_hi : BitVec 21) (_low : BitVec 5) (s : State) : Host.Outcome State Fault Refusal := s.illegalCmd

/-- RSV bit 11. -/
def execIllegalRsv11 (_hi : BitVec 20) (_low : BitVec 5) (s : State) : Host.Outcome State Fault Refusal := s.illegalCmd

/-- RSV bit 12. -/
def execIllegalRsv12 (_hi : BitVec 19) (_low : BitVec 5) (s : State) : Host.Outcome State Fault Refusal := s.illegalCmd

/-- RSV bit 13. -/
def execIllegalRsv13 (_hi : BitVec 18) (_low : BitVec 5) (s : State) : Host.Outcome State Fault Refusal := s.illegalCmd

/-- RSV bit 14. -/
def execIllegalRsv14 (_hi : BitVec 17) (_low : BitVec 5) (s : State) : Host.Outcome State Fault Refusal := s.illegalCmd

/-- RSV bit 15. -/
def execIllegalRsv15 (_hi : BitVec 16) (_low : BitVec 5) (s : State) : Host.Outcome State Fault Refusal := s.illegalCmd

/-- RSV bit 16. -/
def execIllegalRsv16 (_hi : BitVec 15) (_low : BitVec 5) (s : State) : Host.Outcome State Fault Refusal := s.illegalCmd

/-- RSV bit 17. -/
def execIllegalRsv17 (_hi : BitVec 14) (_low : BitVec 5) (s : State) : Host.Outcome State Fault Refusal := s.illegalCmd

/-- RSV bit 18. -/
def execIllegalRsv18 (_hi : BitVec 13) (_low : BitVec 5) (s : State) : Host.Outcome State Fault Refusal := s.illegalCmd

/-- RSV bit 19. -/
def execIllegalRsv19 (_hi : BitVec 12) (_low : BitVec 5) (s : State) : Host.Outcome State Fault Refusal := s.illegalCmd

/-- RSV bit 20. -/
def execIllegalRsv20 (_hi : BitVec 11) (_low : BitVec 5) (s : State) : Host.Outcome State Fault Refusal := s.illegalCmd

/-- RSV bit 21. -/
def execIllegalRsv21 (_hi : BitVec 10) (_low : BitVec 5) (s : State) : Host.Outcome State Fault Refusal := s.illegalCmd

/-- RSV bit 22. -/
def execIllegalRsv22 (_hi : BitVec 9) (_low : BitVec 5) (s : State) : Host.Outcome State Fault Refusal := s.illegalCmd

/-- RSV bit 23. -/
def execIllegalRsv23 (_hi : BitVec 8) (_low : BitVec 5) (s : State) : Host.Outcome State Fault Refusal := s.illegalCmd

/-- RSV bit 24. -/
def execIllegalRsv24 (_hi : BitVec 7) (_low : BitVec 5) (s : State) : Host.Outcome State Fault Refusal := s.illegalCmd

/-- RSV bit 25. -/
def execIllegalRsv25 (_hi : BitVec 6) (_low : BitVec 5) (s : State) : Host.Outcome State Fault Refusal := s.illegalCmd

/-- RSV bit 26. -/
def execIllegalRsv26 (_hi : BitVec 5) (_low : BitVec 5) (s : State) : Host.Outcome State Fault Refusal := s.illegalCmd

/-- RSV bit 27. -/
def execIllegalRsv27 (_hi : BitVec 4) (_low : BitVec 5) (s : State) : Host.Outcome State Fault Refusal := s.illegalCmd

/-- RSV bit 28. -/
def execIllegalRsv28 (_hi : BitVec 3) (_low : BitVec 5) (s : State) : Host.Outcome State Fault Refusal := s.illegalCmd

/-- RSV bit 29. -/
def execIllegalRsv29 (_hi : BitVec 2) (_low : BitVec 5) (s : State) : Host.Outcome State Fault Refusal := s.illegalCmd

/-- RSV bit 30. -/
def execIllegalRsv30 (_hi : BitVec 1) (_low : BitVec 5) (s : State) : Host.Outcome State Fault Refusal := s.illegalCmd

/-- RSV bit 31. -/
def execIllegalRsv31 (_low : BitVec 5) (s : State) : Host.Outcome State Fault Refusal := s.illegalCmd

end Sys2Proof.Machine
end

