-- ==== Sys2Proof/Machine/Unpack.lean ====
section
/-! DEFINITION. The bit unpackers as commands (spec/41_bitunpack.md): UNPACK and UNPACK_IL. -/

namespace Sys2Proof.Machine

/-- What UNPACK and UNPACK_IL stage: the fields, and the registers past them. -/
def State.commitFields (s : State) (g : List Word) (n size : Nat) : State :=
  { s.writeOut g with
    cur := BitVec.ofNat 32 (s.cur.toNat + size)
    outIdx := BitVec.ofNat 32 (s.outIdx.toNat + n)
    consumed := BitVec.ofNat 32 size }

/-- The part UNPACK and UNPACK_IL share, from the output range check on; `n` fields of BW bits. -/
def State.unpackInto (s : State) (n : Nat) (il : Bool) : Res State := do
  s.checkOut n
  let size := packedSize s.params.bs n s.bw.toNat il
  s.need s.cur.toNat size
  let g ← s.gaps s.cur.toNat n s.bw.toNat il
  .ok (s.commitFields g n size)

/-- UNPACK's pseudocode (R158). -/
def State.unpack (s : State) : Res State := do
  s.checkInLen
  if 32 < s.bw.toNat then raise .badParam s.cur.toNat
  else s.unpackInto s.count.toNat false

/-- UNPACK_IL's pseudocode (R159). -/
def State.unpackIl (s : State) : Res State := do
  s.checkInLen
  if s.count.toNat ≠ s.params.bs then raise .badParam s.cur.toNat
  else if 32 < s.bw.toNat then raise .badParam s.cur.toNat
  else s.unpackInto s.params.bs true

/-- UNPACK (R158). -/
def execUnpack (_il : Bool) (s : State) : Host.Outcome State Fault Refusal := s.finish s.count.toNat s.unpack

/-- UNPACK_IL (R159). -/
def execUnpackIl (_il : Bool) (s : State) : Host.Outcome State Fault Refusal := s.finish s.params.bs s.unpackIl

end Sys2Proof.Machine
end

