-- ==== Sys2Proof/Machine/Dispatch.lean ====
section
/-! DEFINITION. One arm for each instruction of spec/opcode_table.json. -/

namespace Sys2Proof.Machine

def exec (i : Instr) (s : State) : Host.Outcome State Fault Refusal :=
  match i with
  | .ldle il => Sys2Proof.Machine.execLdle il s
  | .baseval il => Sys2Proof.Machine.execBaseval il s
  | .vb il => Sys2Proof.Machine.execVb il s
  | .unpack il => Sys2Proof.Machine.execUnpack il s
  | .unpackIl il => Sys2Proof.Machine.execUnpackIl il s
  | .scan il => Sys2Proof.Machine.execScan il s
  | .block => Sys2Proof.Machine.execBlock s
  | .blockIl => Sys2Proof.Machine.execBlockIl s
  | .seq => Sys2Proof.Machine.execSeq s
  | .seqIl => Sys2Proof.Machine.execSeqIl s
  | .illegalOp0 il => Sys2Proof.Machine.execIllegalOp0 il s
  | .illegalOp9 il => Sys2Proof.Machine.execIllegalOp9 il s
  | .illegalOpAB il lo => Sys2Proof.Machine.execIllegalOpAB il lo s
  | .illegalOpCF il lo => Sys2Proof.Machine.execIllegalOpCF il lo s
  | .illegalRsv5 hi low => Sys2Proof.Machine.execIllegalRsv5 hi low s
  | .illegalRsv6 hi low => Sys2Proof.Machine.execIllegalRsv6 hi low s
  | .illegalRsv7 hi low => Sys2Proof.Machine.execIllegalRsv7 hi low s
  | .illegalRsv8 hi low => Sys2Proof.Machine.execIllegalRsv8 hi low s
  | .illegalRsv9 hi low => Sys2Proof.Machine.execIllegalRsv9 hi low s
  | .illegalRsv10 hi low => Sys2Proof.Machine.execIllegalRsv10 hi low s
  | .illegalRsv11 hi low => Sys2Proof.Machine.execIllegalRsv11 hi low s
  | .illegalRsv12 hi low => Sys2Proof.Machine.execIllegalRsv12 hi low s
  | .illegalRsv13 hi low => Sys2Proof.Machine.execIllegalRsv13 hi low s
  | .illegalRsv14 hi low => Sys2Proof.Machine.execIllegalRsv14 hi low s
  | .illegalRsv15 hi low => Sys2Proof.Machine.execIllegalRsv15 hi low s
  | .illegalRsv16 hi low => Sys2Proof.Machine.execIllegalRsv16 hi low s
  | .illegalRsv17 hi low => Sys2Proof.Machine.execIllegalRsv17 hi low s
  | .illegalRsv18 hi low => Sys2Proof.Machine.execIllegalRsv18 hi low s
  | .illegalRsv19 hi low => Sys2Proof.Machine.execIllegalRsv19 hi low s
  | .illegalRsv20 hi low => Sys2Proof.Machine.execIllegalRsv20 hi low s
  | .illegalRsv21 hi low => Sys2Proof.Machine.execIllegalRsv21 hi low s
  | .illegalRsv22 hi low => Sys2Proof.Machine.execIllegalRsv22 hi low s
  | .illegalRsv23 hi low => Sys2Proof.Machine.execIllegalRsv23 hi low s
  | .illegalRsv24 hi low => Sys2Proof.Machine.execIllegalRsv24 hi low s
  | .illegalRsv25 hi low => Sys2Proof.Machine.execIllegalRsv25 hi low s
  | .illegalRsv26 hi low => Sys2Proof.Machine.execIllegalRsv26 hi low s
  | .illegalRsv27 hi low => Sys2Proof.Machine.execIllegalRsv27 hi low s
  | .illegalRsv28 hi low => Sys2Proof.Machine.execIllegalRsv28 hi low s
  | .illegalRsv29 hi low => Sys2Proof.Machine.execIllegalRsv29 hi low s
  | .illegalRsv30 hi low => Sys2Proof.Machine.execIllegalRsv30 hi low s
  | .illegalRsv31 low => Sys2Proof.Machine.execIllegalRsv31 low s
  | .for_ b => Sys2Proof.Machine.execFor b s
  | .for32 => Sys2Proof.Machine.execFor32 s
  | .pforVb b => Sys2Proof.Machine.execPforVb b s
  | .pforVb32 => Sys2Proof.Machine.execPforVb32 s
  | .pforBitmap b => Sys2Proof.Machine.execPforBitmap b s
  | .pforBitmap32 => Sys2Proof.Machine.execPforBitmap32 s
  | .constant b => Sys2Proof.Machine.execConstant b s
  | .constant32 => Sys2Proof.Machine.execConstant32 s
  | .forIl b => Sys2Proof.Machine.execForIl b s
  | .forIl32 => Sys2Proof.Machine.execForIl32 s
  | .pforVbIl b => Sys2Proof.Machine.execPforVbIl b s
  | .pforVbIl32 => Sys2Proof.Machine.execPforVbIl32 s
  | .pforBitmapIl b => Sys2Proof.Machine.execPforBitmapIl b s
  | .pforBitmapIl32 => Sys2Proof.Machine.execPforBitmapIl32 s
  | .badWidth ty b => Sys2Proof.Machine.execBadWidth ty b s
  | .bexc e => Sys2Proof.Machine.execBexc e s
  | .bexc32 => Sys2Proof.Machine.execBexc32 s
  | .badWidthExc e => Sys2Proof.Machine.execBadWidthExc e s
  | .baseval1 v => Sys2Proof.Machine.execBaseval1 v s
  | .baseval2 vHi => Sys2Proof.Machine.execBaseval2 vHi s
  | .baseval3 vHi => Sys2Proof.Machine.execBaseval3 vHi s
  | .basevalRsv low => Sys2Proof.Machine.execBasevalRsv low s
  | .vb1 x => Sys2Proof.Machine.execVb1 x s
  | .vb2 x => Sys2Proof.Machine.execVb2 x s
  | .vb3 x => Sys2Proof.Machine.execVb3 x s
  | .vb4 => Sys2Proof.Machine.execVb4 s
  | .vb5 => Sys2Proof.Machine.execVb5 s
  | .vbRsv x => Sys2Proof.Machine.execVbRsv x s
  | .excEsc => Sys2Proof.Machine.execExcEsc s
  | .excVb x => Sys2Proof.Machine.execExcVb x s

end Sys2Proof.Machine
end

