-- ==== Sys2Proof/Machine/Fetch.lean ====
section
/-! DEFINITION. What the next step runs: the accepted CMD word, the next stream byte of a command in flight, or the
host's move; and placing a table row where it is fetched next. -/

namespace Sys2Proof.Machine

/-- What a step finds to do. -/
inductive Fetched where
  /-- The engine runs an instruction. -/
  | instr (i : Instr)
  /-- The stream byte is at or beyond IN_LEN: an engine fault (R222). -/
  | trap (code : FaultCode) (off : Nat)
  /-- The stream byte was never written (R62). -/
  | stop (f : Fault)
  /-- The engine is IDLE or still leaves time to the host. -/
  | host
  deriving DecidableEq, Repr

/-- The next stream byte of a command in flight: `Need(cur, 1)`, then `IBUF[cur]` (R88, R216). -/
def State.streamByte (s : State) (r : Run) : Res Byte := do
  s.need r.cur 1
  s.byteAt r.cur

/-- The fetch (R241, R32). -/
def State.fetch (s : State) : Fetched :=
  match s.engine with
  | .busy w 0 none => .instr (decode .cmd w)
  | .busy _ 0 (some r) =>
    match s.streamByte r with
    | .ok x => .instr (decodeByte (r.format s.params.bs) x)
    | .error (.engine code off) => .trap code off
    | .error (.model f) => .stop f
  | .busy _ (_ + 1) _ => .host
  | .idle => .host

/-- The CMD word `w` accepted and due at once. -/
def State.placeCmd (s : State) (w : Word) : State := s.beginCommand w 0 none

/-- A BLOCK command of one position in flight, whose header `x` stands at address 0 with zero bytes after it (log 4). -/
def State.placeHdr (s : State) (x : Byte) : State :=
  { s.beginCommand (encode .block) 0 (some ⟨0, s.prev, [], 1, false, .header⟩) with
    cur := 0
    count := 1
    inLen := 17
    ibuf := s.ibuf.writeAll 0 (x :: List.replicate 16 0) }

end Sys2Proof.Machine
end

