-- ==== Sys2Proof/Machine/Step.lean ====
section
/-! DEFINITION. One step of the machine, and placing an opcode-table row where the next step fetches it. -/

namespace Sys2Proof.Machine

/-- One step: the engine runs what it fetched, or the host moves (R84, R227, R241). -/
def step (s : State) : Host.Outcome State Fault Refusal :=
  match s.fetch with
  | .instr i => exec i s
  | .trap code off => .next (s.faultEntry code off s.runningWriteSet)
  | .stop f => .fault f
  | .host => s.hostTurn

/-- The next step runs the instruction `decodeTableWord nbits w` (log 4). -/
def State.withFetchWord (s : State) (nbits w : Nat) : State :=
  if nbits = 8 then s.placeHdr (BitVec.ofNat 8 w) else s.placeCmd (BitVec.ofNat 32 w)

end Sys2Proof.Machine
end

