-- ==== Sys2Proof/Safety.lean ====
section
/-! DEFINITION. The words claims are stated in: which instructions are commands, what IBUF and OBUF hold, and the
invariant of the machine. -/

namespace Sys2Proof

/-- The eight commands of R102, BLOCK and SEQ under either IL bit. -/
def Instr.isCommand : Instr → Bool
  | .ldle _ | .baseval _ | .vb _ | .unpack _ | .unpackIl _ | .scan _ => true
  | .block | .blockIl | .seq | .seqIl => true
  | .illegalOp0 _ | .illegalOp9 _ | .illegalOpAB _ _ | .illegalOpCF _ _ => false
  | .illegalRsv5 _ _ | .illegalRsv6 _ _ | .illegalRsv7 _ _ | .illegalRsv8 _ _ | .illegalRsv9 _ _
    | .illegalRsv10 _ _ | .illegalRsv11 _ _ | .illegalRsv12 _ _ | .illegalRsv13 _ _
    | .illegalRsv14 _ _ | .illegalRsv15 _ _ | .illegalRsv16 _ _ | .illegalRsv17 _ _
    | .illegalRsv18 _ _ | .illegalRsv19 _ _ | .illegalRsv20 _ _ | .illegalRsv21 _ _
    | .illegalRsv22 _ _ | .illegalRsv23 _ _ | .illegalRsv24 _ _ | .illegalRsv25 _ _
    | .illegalRsv26 _ _ | .illegalRsv27 _ _ | .illegalRsv28 _ _ | .illegalRsv29 _ _
    | .illegalRsv30 _ _ | .illegalRsv31 _ => false
  | .for_ _ | .for32 | .pforVb _ | .pforVb32 | .pforBitmap _ | .pforBitmap32 | .constant _
    | .constant32 => false
  | .forIl _ | .forIl32 | .pforVbIl _ | .pforVbIl32 | .pforBitmapIl _ | .pforBitmapIl32 => false
  | .badWidth _ _ | .bexc _ | .bexc32 | .badWidthExc _ | .baseval1 _ | .baseval2 _ | .baseval3 _
    | .basevalRsv _ | .vb1 _ | .vb2 _ | .vb3 _ | .vb4 | .vb5 | .vbRsv _ | .excEsc | .excVb _ => false

/-- ILLEGAL_CMD (R103). -/
def Instr.isIllegalCmd (i : Instr) : Bool := decide (i.format = .cmd) && !i.isCommand

/-- What a legal header is (R104): its type, its width, and its flavour where the type has two (R171). -/
def Instr.headerOf : Instr → Option (BlockType × Nat × Option Bool)
  | .for_ b => some (.for_, b.toNat, some false)
  | .for32 => some (.for_, 32, some false)
  | .forIl b => some (.for_, b.toNat, some true)
  | .forIl32 => some (.for_, 32, some true)
  | .pforVb b => some (.pforVb, b.toNat, some false)
  | .pforVb32 => some (.pforVb, 32, some false)
  | .pforVbIl b => some (.pforVb, b.toNat, some true)
  | .pforVbIl32 => some (.pforVb, 32, some true)
  | .pforBitmap b => some (.pforBitmap, b.toNat, some false)
  | .pforBitmap32 => some (.pforBitmap, 32, some false)
  | .pforBitmapIl b => some (.pforBitmap, b.toNat, some true)
  | .pforBitmapIl32 => some (.pforBitmap, 32, some true)
  | .constant b => some (.constant, b.toNat, none)
  | .constant32 => some (.constant, 32, none)
  | .ldle _ | .baseval _ | .vb _ | .unpack _ | .unpackIl _ | .scan _ | .block | .blockIl | .seq
    | .seqIl | .illegalOp0 _ | .illegalOp9 _ | .illegalOpAB _ _ | .illegalOpCF _ _ => none
  | .illegalRsv5 _ _ | .illegalRsv6 _ _ | .illegalRsv7 _ _ | .illegalRsv8 _ _ | .illegalRsv9 _ _
    | .illegalRsv10 _ _ | .illegalRsv11 _ _ | .illegalRsv12 _ _ | .illegalRsv13 _ _
    | .illegalRsv14 _ _ | .illegalRsv15 _ _ | .illegalRsv16 _ _ | .illegalRsv17 _ _
    | .illegalRsv18 _ _ | .illegalRsv19 _ _ | .illegalRsv20 _ _ | .illegalRsv21 _ _
    | .illegalRsv22 _ _ | .illegalRsv23 _ _ | .illegalRsv24 _ _ | .illegalRsv25 _ _
    | .illegalRsv26 _ _ | .illegalRsv27 _ _ | .illegalRsv28 _ _ | .illegalRsv29 _ _
    | .illegalRsv30 _ _ | .illegalRsv31 _ => none
  | .badWidth _ _ | .bexc _ | .bexc32 | .badWidthExc _ => none
  | .baseval1 _ | .baseval2 _ | .baseval3 _ | .basevalRsv _ => none
  | .vb1 _ | .vb2 _ | .vb3 _ | .vb4 | .vb5 | .vbRsv _ | .excEsc | .excVb _ => none

/-- The baseval form `i` (R110): the bytes `xs` that follow its first byte, and the value `v` they make. -/
def basevalForm (i : Instr) (xs : List Byte) (v : Word) : Prop :=
  (∃ h : BitVec 7, i = .baseval1 h ∧ xs = [] ∧ v = h.setWidth 32) ∨
    (∃ (h : BitVec 6) (b1 : Byte), i = .baseval2 h ∧ xs = [b1] ∧ v = (h ++ b1).setWidth 32) ∨
    ∃ (h : BitVec 5) (b1 b2 : Byte), i = .baseval3 h ∧ xs = [b1, b2] ∧ v = (h ++ b2 ++ b1).setWidth 32

/-- The vb form `i` (R111): the bytes `xs` that follow its first byte, and the value `v` they make. -/
def vbForm (i : Instr) (xs : List Byte) (v : Nat) : Prop :=
  (∃ x : Byte, i = .vb1 x ∧ x.toNat ≤ 176 ∧ xs = [] ∧ v = x.toNat) ∨
    (∃ x b1 : Byte, i = .vb2 x ∧ 177 ≤ x.toNat ∧ x.toNat ≤ 240 ∧ xs = [b1] ∧
      v = (x.toNat - 177) * 256 + b1.toNat + 177) ∨
    (∃ x b1 b2 : Byte, i = .vb3 x ∧ 241 ≤ x.toNat ∧ x.toNat ≤ 248 ∧ xs = [b1, b2] ∧
      v = (x.toNat - 241) * 65536 + b1.toNat + 256 * b2.toNat + 16561) ∨
    (∃ b1 b2 b3 : Byte, i = .vb4 ∧ xs = [b1, b2, b3] ∧ v = b1.toNat + 2 ^ 8 * b2.toNat + 2 ^ 16 * b3.toNat) ∨
    ∃ b1 b2 b3 b4 : Byte, i = .vb5 ∧ xs = [b1, b2, b3, b4] ∧
      v = b1.toNat + 2 ^ 8 * b2.toNat + 2 ^ 16 * b3.toNat + 2 ^ 24 * b4.toNat

end Sys2Proof

namespace Sys2Proof.Machine

/-- IBUF holds the bytes `xs` from address `a` on, all of them below IN_LEN. -/
abbrev State.holds (s : State) (a : Nat) (xs : List Byte) : Prop :=
  a + xs.length ≤ s.inLen.toNat ∧ ∀ k, k < xs.length → s.ibuf.read (a + k) = xs[k]?

/-- The bytes `xs` of a region at `a`; an empty region needs nothing, wherever it stands (R12, R153). -/
abbrev State.regionHolds (s : State) (a : Nat) (xs : List Byte) : Prop := xs = [] ∨ s.holds a xs

/-- OBUF holds the words `ws` from index `o` on. -/
abbrev State.obufHolds (s : State) (o : Nat) (ws : List Word) : Prop :=
  ∀ k, k < ws.length → s.obuf.read (o + k) = ws[k]?

/-- Every IBUF byte below IN_LEN has been written (R256 item 2). -/
abbrev State.inputWritten (s : State) : Prop := ∀ a, a < s.inLen.toNat → (s.ibuf.read a).isSome = true

/-- Every OBUF word SCAN reads has been written (R256 item 3). -/
abbrev State.scanInputWritten (s : State) : Prop :=
  ∀ k, k < s.count.toNat → (s.obuf.read (s.outIdx.toNat + k)).isSome = true

/-- The state a fault with `code` at `off` leaves when it touches no OBUF word (R227, R228, R229). -/
def State.faulted (s : State) (code : FaultCode) (off : Word) : State :=
  { s with errOff := off, errCode := code.code, err := true, done := true, engine := .idle }

/-- The invariant's part on memories: canonical form, and no entry outside the buffer (R70, R71). -/
abbrev State.MemOk (s : State) : Prop :=
  s.ibuf.wf = true ∧ s.obuf.wf = true ∧ (∀ p ∈ s.ibuf, p.1 < s.params.inCap) ∧ ∀ p ∈ s.obuf, p.1 < s.params.outCap

/-- The invariant's part on STATUS: ERR says whether ERRCODE is 0, codes 11–15 never occur (R221), and a BUSY engine
shows neither DONE nor ERR (R38–R42, R241). -/
abbrev State.StatusOk (s : State) : Prop :=
  s.err = decide (s.errCode ≠ 0) ∧ s.errCode.toNat ≤ 10 ∧ (s.busy = true → s.done = false ∧ s.err = false)

/-- The identifiers a command in flight has and has still to decode are COUNT in all, and they fit OBUF. -/
def State.idsOk (s : State) (r : Run) : Bool :=
  decide (1 ≤ r.todo) && decide (r.out.length + r.todo = s.count.toNat) &&
    decide (s.outIdx.toNat + s.count.toNat ≤ s.params.outCap)

/-- The block a command in flight is in the middle of. -/
def State.blockOk (s : State) (r : Run) (num b : Nat) : Bool :=
  s.idsOk r && decide (num = r.num s.params.bs) && decide (b ≤ 32)

/-- The invariant's part on command-local state (R52, R55). -/
def State.runOk (s : State) : Bool :=
  match s.engine with
  | .idle => true
  | .busy _ _ none => true
  | .busy _ _ (some r) =>
    match r.expect with
    | .scalarBaseval | .scalarVb => true
    | .seed => s.idsOk r && decide (r.out = [])
    | .header => s.idsOk r
    | .bexc _ num b useIL => s.blockOk r num b && (!useIL || decide (num = s.params.bs))
    | .excArea num b n g => s.blockOk r num b && decide (1 ≤ n) && decide (n ≤ 255) && decide (g.length = num)
    | .excVb num b n g xs =>
      s.blockOk r num b && decide (n ≤ 255) && decide (g.length = num) && decide (xs.length < n)

/-- The invariant every step keeps. -/
abbrev State.Inv (s : State) : Prop := s.params.legal = true ∧ s.MemOk ∧ s.StatusOk ∧ s.runOk = true

/-- The packed base values of two full blocks of width `b`, interleaved at `a` in `s` and contiguous at `a'` in `t`, hold
the same fields (R187). -/
def State.sameBase (s t : State) (a a' b : Nat) : Prop :=
  ∀ r r', s.region a (s.params.bs * b / 8) = .ok r → t.region a' (ceilDiv (s.params.bs * b) 8) = .ok r' →
    ∀ p, p < s.params.bs → ilGap r p b = contigField r' p b

/-- What a step may not change: the parameters (R31). -/
abbrev State.sameParams (s t : State) : Prop := t.params = s.params

/-- The registers a fault leaves as they were before the command (R228), and those no command writes (R43–R48). -/
abbrev State.sameRegisters (s t : State) : Prop :=
  t.cur = s.cur ∧ t.inLen = s.inLen ∧ t.count = s.count ∧ t.outIdx = s.outIdx ∧ t.prev = s.prev ∧ t.bw = s.bw ∧
    t.resultLo = s.resultLo ∧ t.resultHi = s.resultHi ∧ t.consumed = s.consumed ∧ t.ie = s.ie ∧ t.ovr = s.ovr

end Sys2Proof.Machine
end

