-- ==== Sys2Proof/Certificates/Slice0/Obligations.lean ====
section
/-! DEFINITION. The statements for the provers. Each docstring says which rule of spec/ it formalises, or what it is
derived from. -/

open Sys2Proof Sys2Proof.Machine

/-! ### Encoding -/

/-- Decoding an encoded well-formed instruction, in the format it belongs to, gives it back: no operand bit of a
command word or of a stream byte is dropped (R101–R111). -/
def Obligations.DecodeEncodeAgree : Prop :=
  ∀ i : Instr, i.wf = true → decode i.format (encode i) = i

/-- Every word of every format decodes to a well-formed instruction whose encoding is that word again (bits 7:0 of it
in the byte formats): within one format no two instructions share a word, and decoding is total (R103). -/
def Obligations.EncodeDecodeAgree : Prop :=
  ∀ (f : Format) (w : Word),
    (decode f w).wf = true ∧ encode (decode f w) = if f = .cmd then w else (w.setWidth 8).setWidth 32

/-- A few words written out from R101–R111 decode to the instructions they stand for. -/
def Obligations.SampleWordsDecode : Prop :=
  decode .cmd 0x00000001#32 = .ldle false ∧ decode .cmd 0x00000017#32 = .blockIl ∧
    decode .cmd 0x00000018#32 = .seqIl ∧ decode .cmd 0x00000029#32 = .illegalRsv5 0 9 ∧
    decode (.hdr false) 0x82#32 = .pforBitmap 2 ∧ decode (.hdr true) 0x41#32 = .pforVbIl 1 ∧
    decode (.hdr true) 0xC5#32 = .constant 5 ∧ decode (.hdr false) 0xE1#32 = .badWidth .constant 33 ∧
    decode .bexc 0x20#32 = .bexc32 ∧ decode .basevalByte 0x83#32 = .baseval2 3 ∧
    decode .vbByte 0xB1#32 = .vb2 0xB1 ∧ decode .excArea 0xFF#32 = .excEsc

/-- R102 and R103: with RSV ≠ 0 a CMD word is ILLEGAL_CMD; otherwise OP selects, IL being an operand of the first six
commands and part of the instruction for BLOCK and SEQ; OP 0x0 and 0x9–0xF are ILLEGAL_CMD. -/
def Obligations.CommandWordsDecode : Prop :=
  ∀ w : Word,
    ((decodeCmd w).isIllegalCmd = true ↔
      w.extractLsb' 5 27 ≠ 0 ∨ (w.extractLsb' 0 4).toNat = 0 ∨ 9 ≤ (w.extractLsb' 0 4).toNat) ∧
      (w.extractLsb' 5 27 = 0 →
        (w.extractLsb' 0 4 = 1 → decodeCmd w = .ldle (w.getLsbD 4)) ∧
          (w.extractLsb' 0 4 = 2 → decodeCmd w = .baseval (w.getLsbD 4)) ∧
          (w.extractLsb' 0 4 = 3 → decodeCmd w = .vb (w.getLsbD 4)) ∧
          (w.extractLsb' 0 4 = 4 → decodeCmd w = .unpack (w.getLsbD 4)) ∧
          (w.extractLsb' 0 4 = 5 → decodeCmd w = .unpackIl (w.getLsbD 4)) ∧
          (w.extractLsb' 0 4 = 6 → decodeCmd w = .scan (w.getLsbD 4)) ∧
          (w.extractLsb' 0 4 = 7 → decodeCmd w = if w.getLsbD 4 then .blockIl else .block) ∧
          (w.extractLsb' 0 4 = 8 → decodeCmd w = if w.getLsbD 4 then .seqIl else .seq))

/-- Scalars the assembler writes in their shortest form (R118) decode to their values and lengths (R132, R134). -/
def Obligations.ScalarRoundTrip : Prop :=
  ∀ (s : State) (c v : Nat),
    (v < 2 ^ 21 → s.holds c (encodeBaseval v) →
      s.decodeBaseval c = .ok (BitVec.ofNat 32 v, (encodeBaseval v).length)) ∧
      (v < 2 ^ 32 → s.holds c (encodeVb v) → s.decodeVb c = .ok (BitVec.ofNat 32 v, (encodeVb v).length))

/-- Packed regions the assembler writes (R112, R118) unpack to their fields, contiguous (R150) and interleaved (R154,
R156); an interleaved region holds whole groups of 128 fields (R157). -/
def Obligations.PackUnpackRoundTrip : Prop :=
  ∀ (b : Nat) (vs : List Nat), 1 ≤ b → b ≤ 32 → (∀ v ∈ vs, v < 2 ^ b) →
    (∀ k, k < vs.length → contigField (packContig b vs) k b = vs.getD k 0) ∧
      (vs.length % 128 = 0 → ∀ p, p < vs.length → ilGap (packIl b vs) p b = vs.getD p 0)

/-- A whole sequence assembled as a baseval and contiguous FOR blocks, each of its own width and all but the last of
BS positions, decodes to the seed and the scan of all its stored gaps, and every byte is consumed (the round trip and
the cursor accounting of R210, R213, on the EXACT reader). -/
def Obligations.SequenceRoundTrip : Prop :=
  ∀ (s : State) (c v : Nat) (blocks : List (Nat × List Nat)),
    s.params.contigMode = .exact → v < 2 ^ 21 →
    (∀ p ∈ blocks, p.1 ≤ 32 ∧ 1 ≤ p.2.length ∧ p.2.length ≤ s.params.bs ∧ ∀ x ∈ p.2, x < 2 ^ p.1) →
    (∀ p ∈ blocks.dropLast, p.2.length = s.params.bs) →
    s.holds c (assemble (.baseval v :: blocks.flatMap fun p => StreamItem.blockFor p.1 p.2)) →
      s.decodeSeq c (1 + (blocks.flatMap fun p => p.2).length) false =
        .ok (BitVec.ofNat 32 v :: scan (BitVec.ofNat 32 v) ((blocks.flatMap fun p => p.2).map (BitVec.ofNat 32)),
          c + (assemble (.baseval v :: blocks.flatMap fun p => StreamItem.blockFor p.1 p.2)).length)

/-- A contiguous PFOR_VB block assembled in either form of its exception area (R108, R109, R118), with 1 to 255
exceptions, decodes to the base gaps with the exceptions ORed in (R178, R181), on the EXACT reader. -/
def Obligations.PforVbBlockRoundTrip : Prop :=
  ∀ (s : State) (c b : Nat) (exc : List (Nat × Nat)) (g : List Nat) (prev : Word) (items : List StreamItem),
    s.params.contigMode = .exact → b < 32 → (∀ x ∈ g, x < 2 ^ b) →
    1 ≤ exc.length → exc.length ≤ 255 → (∀ p ∈ exc, p.1 < g.length ∧ p.1 < 256 ∧ p.2 < 2 ^ 32) →
    items = StreamItem.blockPforVb b exc g ∨ items = StreamItem.blockPforVbEsc b exc g →
    s.holds c (assemble items) →
      s.decodeBlock c g.length false prev =
        .ok (scan prev (orAll b (g.map (BitVec.ofNat 32)) (exc.map fun p => (p.1, BitVec.ofNat 32 p.2))),
          c + (assemble items).length)

/-! ### Registers, resets and the host -/

/-- The machine right after reset satisfies the invariant that every step keeps. -/
def Obligations.ResetSatisfiesInvariant : Prop := State.reset.Inv

/-- The reset values of R61: after power-on reset and after soft reset every register but CONFIG reads 0, CONFIG is
unchanged, the phase is IDLE and `irq` is 0. After power-on IBUF and OBUF hold no value. After soft reset IBUF is
unchanged, and OBUF but for the words of an aborted command. Two clauses are the model's: that `State.reset` is the
default engine of R8, so that its CONFIG reads 0x00200080 (log 5, DESIGN CHOICE), and which OBUF words an aborted
command may have changed (log 8, DEDUCED). -/
def Obligations.ResetValues : Prop :=
  ∀ s : State,
    (∀ t ∈ [State.reset, s.softReset, s.powerOn],
      (∀ r : Reg, r ≠ .config → t.regValue r = 0) ∧ t.busy = false ∧ t.irq = false) ∧
      s.softReset.regValue .config = s.regValue .config ∧ s.powerOn.regValue .config = s.regValue .config ∧
      State.reset.regValue .config = 0x00200080 ∧
      (∀ t ∈ [State.reset, s.powerOn], ∀ a, t.ibuf.read a = none ∧ t.obuf.read a = none) ∧
      s.softReset.ibuf = s.ibuf ∧
      ∀ k, ¬ (s.outIdx.toNat ≤ k ∧ k < s.outIdx.toNat + s.runningWriteSet) →
        s.softReset.obuf.read k = s.obuf.read k

/-- A host write of CTRL, in either phase. With SRST set it is the soft reset (R252): every register but CONFIG takes
its reset value whatever else the write carries, the phase is IDLE, `irq` drops, IBUF stays, and OBUF but for the write
set of an aborted command (R253). With SRST clear it only sets IE (R35). The model's own in it: the host step used up
while BUSY (`s.tick`, log 2), the rest of the host's list kept through a reset (log 3, log 13), and which OBUF words an
aborted command may have changed (log 8). -/
def Obligations.CtrlWriteResetsOrSetsIe : Prop :=
  ∀ (s : State) (v : Word) (rest : List HostOp), s.fetch = .host → s.hostQ = HostOp.wr s.params .ctrl v :: rest →
    (v.getLsbD 1 = true → ∃ t, step s = .next t ∧ t.hostQ = rest ∧ t.regValue .config = s.regValue .config ∧
      (∀ r : Reg, r ≠ .config → t.regValue r = 0) ∧ t.busy = false ∧ t.irq = false ∧ t.ibuf = s.ibuf ∧
      ∀ k, ¬ (s.outIdx.toNat ≤ k ∧ k < s.outIdx.toNat + s.runningWriteSet) → t.obuf.read k = s.obuf.read k) ∧
      (v.getLsbD 1 = false → step s = .next { s.tick with hostQ := rest, ie := v.getLsbD 0 })

/-- The offsets of R33, and a host write step while IDLE (R33, R43–R51, R58, R59, R70, R71). CUR, IN_LEN, COUNT,
OUT_IDX and PREV take the word written, BW its bits 5:0, and each then holds it as its value; a write to CONFIG, to a
read-only register or to any reserved offset 0x38–0xFC changes nothing; a written IBUF byte or OBUF word is what is
read there afterwards, every other one being unchanged. Nothing else changes in any of these writes, but that the host
has made its move (log 3). That OBUF is addressed by word index is the model's choice (log 9, DESIGN CHOICE); that a
byte write takes bits 7:0 of the value given is its reading (log 17, DEDUCED). -/
def Obligations.HostWritesReadBack : Prop :=
  [Reg.config, .ctrl, .cmd, .status, .cur, .inLen, .count, .outIdx, .prev, .bw, .resultLo, .resultHi, .errOff,
      .consumed].map Reg.offset =
    [0x00, 0x04, 0x08, 0x0C, 0x10, 0x14, 0x18, 0x1C, 0x20, 0x24, 0x28, 0x2C, 0x30, 0x34] ∧
  ∀ (s : State) (v : Word) (rest : List HostOp), s.engine = .idle →
    (∀ p ∈ [(Reg.cur, v, { s with hostQ := rest, cur := v }), (.inLen, v, { s with hostQ := rest, inLen := v }),
        (.count, v, { s with hostQ := rest, count := v }), (.outIdx, v, { s with hostQ := rest, outIdx := v }),
        (.prev, v, { s with hostQ := rest, prev := v }),
        (.bw, v &&& 0x3F#32, { s with hostQ := rest, bw := v.extractLsb' 0 6 })],
      s.hostQ = HostOp.wr s.params p.1 v :: rest → step s = .next p.2.2 ∧ p.2.2.regValue p.1 = p.2.1) ∧
      (∀ r ∈ [Reg.config, .resultLo, .resultHi, .errOff, .consumed],
        s.hostQ = HostOp.wr s.params r v :: rest → step s = .next { s with hostQ := rest }) ∧
      (∀ off, 0x38 ≤ off → off < 0x100 → off % 4 = 0 →
        s.hostQ = .write .reg (s.params.regBase + off) 4 v :: rest → step s = .next { s with hostQ := rest }) ∧
      (∀ a, a < s.params.inCap → s.hostQ = .write .ibuf (s.params.ibufBase + a) 1 v :: rest →
        ∃ t, step s = .next t ∧ t.ibuf.read a = some (v.extractLsb' 0 8) ∧
          (∀ c, c ≠ a → t.ibuf.read c = s.ibuf.read c) ∧ { t with ibuf := s.ibuf } = { s with hostQ := rest }) ∧
      ∀ k, k < s.params.outCap → s.hostQ = .write .obuf (s.params.obufBase + k) 4 v :: rest →
        ∃ t, step s = .next t ∧ t.obuf.read k = some v ∧ (∀ c, c ≠ k → t.obuf.read c = s.obuf.read c) ∧
          { t with obuf := s.obuf } = { s with hostQ := rest }

/-- R37–R42: where each STATUS field stands, that the reserved bits read 0, and what a host write step of STATUS does
while IDLE: a 1 clears DONE, ERR (with ERRCODE) and OVR, a 0 does nothing, and ERR_OFF and everything else are
unchanged. -/
def Obligations.StatusRegister : Prop :=
  ∀ s : State,
    (s.statusWord.getLsbD 0 = s.busy ∧ s.statusWord.getLsbD 1 = s.done ∧ s.statusWord.getLsbD 2 = s.err ∧
      s.statusWord.getLsbD 3 = s.ovr ∧ s.statusWord.extractLsb' 4 4 = 0 ∧ s.statusWord.extractLsb' 8 4 = s.errCode ∧
      s.statusWord.extractLsb' 12 20 = 0) ∧
      ∀ (v : Word) (rest : List HostOp), s.engine = .idle → s.hostQ = HostOp.wr s.params .status v :: rest →
        step s = .next { s with
          hostQ := rest
          done := if v.getLsbD 1 then false else s.done
          err := if v.getLsbD 2 then false else s.err
          errCode := if v.getLsbD 2 then 0 else s.errCode
          ovr := if v.getLsbD 3 then false else s.ovr }

/-- R34: the fields of CONFIG (VB_EMPTY_SELECTOR reads 0 for FAULT_ON_FF, 1 for NO_READ, 2 for CONSUME), its value on
the default engine, and that neither a write nor a reset changes it. -/
def Obligations.ConfigRegister : Prop :=
  ∀ s : State,
    (s.configWord.extractLsb' 0 16).toNat = s.params.bs ∧ s.configWord.extractLsb' 16 8 = 0x20 ∧
      (s.configWord.getLsbD 24 = decide (s.params.contigMode = .window32)) ∧
      (s.params.vbEmpty = .faultOnFf → s.configWord.extractLsb' 25 2 = 0) ∧
      (s.params.vbEmpty = .noRead → s.configWord.extractLsb' 25 2 = 1) ∧
      (s.params.vbEmpty = .consume → s.configWord.extractLsb' 25 2 = 2) ∧ s.configWord.extractLsb' 27 5 = 0 ∧
      (s.params.blockSize = .bs128 → s.params.contigMode = .exact → s.params.vbEmpty = .faultOnFf →
        s.configWord = 0x00200080) ∧
      (∀ v, s.writeReg .config v = s) ∧ s.softReset.configWord = s.configWord ∧ s.powerOn.configWord = s.configWord

/-- R234: while BUSY a host write to CMD, CUR, IN_LEN, COUNT, OUT_IDX, PREV, BW, STATUS, IBUF or OBUF is ignored and
sets OVR; a CTRL write (here without SRST) takes effect; a write to CONFIG, a read-only register or any reserved offset
0x38–0xFC is ignored and does not set OVR. The running command is not changed. Accepting a command, which happens in
the IDLE phase, keeps OVR. Two things are the model's choice: that the host has a counted number of steps while BUSY,
one of which each write uses up (`left + 1` to `left`; log 2), and that OBUF is addressed by word index (log 9). -/
def Obligations.BusyWritesAreLostAndSetOvr : Prop :=
  (∀ (s : State) (v : Word), (s.accept v).ovr = s.ovr) ∧
  ∀ (s : State) (w : Word) (left : Nat) (run : Option Run) (v : Word) (rest : List HostOp),
    s.engine = .busy w (left + 1) run →
    (∀ r ∈ [Reg.cmd, Reg.cur, Reg.inLen, Reg.count, Reg.outIdx, Reg.prev, Reg.bw, Reg.status],
      s.hostQ = HostOp.wr s.params r v :: rest →
        step s = .next { s with engine := .busy w left run, hostQ := rest, ovr := true }) ∧
      (∀ a, a < s.params.inCap → s.hostQ = .write .ibuf (s.params.ibufBase + a) 1 v :: rest →
        step s = .next { s with engine := .busy w left run, hostQ := rest, ovr := true }) ∧
      (∀ k, k < s.params.outCap → s.hostQ = .write .obuf (s.params.obufBase + k) 4 v :: rest →
        step s = .next { s with engine := .busy w left run, hostQ := rest, ovr := true }) ∧
      (s.hostQ = HostOp.wr s.params .ctrl v :: rest → v.getLsbD 1 = false →
        step s = .next { s with engine := .busy w left run, hostQ := rest, ie := v.getLsbD 0 }) ∧
      (∀ r ∈ [Reg.config, Reg.resultLo, Reg.resultHi, Reg.errOff, Reg.consumed],
        s.hostQ = HostOp.wr s.params r v :: rest → step s = .next { s with engine := .busy w left run, hostQ := rest }) ∧
      ∀ off, 0x38 ≤ off → off < 0x100 → off % 4 = 0 →
        s.hostQ = .write .reg (s.params.regBase + off) 4 v :: rest →
          step s = .next { s with engine := .busy w left run, hostQ := rest }

/-- R241 up to the command's own pseudocode: a CMD write while IDLE makes the phase BUSY with the word written, clears
DONE, ERR and ERRCODE, and keeps OVR and every other register and buffer. What the BUSY engine then runs is
StepRunsTheDecodedInstruction's, after the host's steps: the whole command (`run = none`) or its items from
`s.startRun v` on, which ItemwiseAgreesWithAtomic ties to the whole command. Which of the two, and the number of steps,
are the model's free values (log 1, log 2). -/
def Obligations.CommandWriteIsAccepted : Prop :=
  ∀ (s : State) (v : Word) (rest : List HostOp), s.engine = .idle → s.hostQ = HostOp.wr s.params .cmd v :: rest →
    ∃ (left : Nat) (run : Option Run), (run = none ∨ run = s.startRun v) ∧
      step s = .next { s with
        engine := .busy v left run
        done := false
        err := false
        errCode := 0
        hostQ := rest
        draws := s.draws + 1 }

/-- A host read step changes nothing but the value it returns (R80), in either phase: CONFIG, CTRL (bit 0 is IE, the
rest reads 0, R35), CMD (0, R36), STATUS, IN_LEN, COUNT and BW return their current values, CUR, OUT_IDX, PREV,
RESULT_LO, RESULT_HI, ERR_OFF and CONSUMED return theirs while IDLE and any value while BUSY (R63), and every reserved
offset 0x38–0xFC returns 0 (R58). An IBUF byte returns its current value in either phase, an OBUF word its value while
IDLE and any value while BUSY (R91); one never written returns any value (R62, log 11). "Any value" is a free value,
which the model counts in `draws` (log 6); `s.tick` is the host step used up while BUSY (log 2). That word `k` of OBUF
stands at `obufBase + k` is the model's choice (log 9, DESIGN CHOICE); that a read answers in 32 bits, an IBUF byte
zero-extended, is its reading (log 17, DEDUCED). -/
def Obligations.HostReadsOnlyAnswer : Prop :=
  ∀ (s answered drawn : State) (rest : List HostOp), s.fetch = .host →
    answered = { s.tick with hostQ := rest } →
    drawn = { s.tick with hostQ := rest, readData := some (Config.freeWord s.draws), draws := s.draws + 1 } →
    (∀ p ∈ [(Reg.config, s.configWord), (.ctrl, 0#31 ++ BitVec.ofBool s.ie), (.cmd, 0), (.status, s.statusWord),
        (.inLen, s.inLen), (.count, s.count), (.bw, 0#26 ++ s.bw)],
      s.hostQ = HostOp.rd s.params p.1 :: rest → step s = .next { answered with readData := some p.2 }) ∧
      (∀ p ∈ [(Reg.cur, s.cur), (.outIdx, s.outIdx), (.prev, s.prev), (.resultLo, s.resultLo), (.resultHi, s.resultHi),
          (.errOff, s.errOff), (.consumed, s.consumed)],
        s.hostQ = HostOp.rd s.params p.1 :: rest →
          step s = .next (if s.busy then drawn else { answered with readData := some p.2 })) ∧
      (∀ off, 0x38 ≤ off → off < 0x100 → off % 4 = 0 → s.hostQ = .read .reg (s.params.regBase + off) 4 :: rest →
        step s = .next { answered with readData := some 0 }) ∧
      (∀ a, a < s.params.inCap → s.hostQ = .read .ibuf (s.params.ibufBase + a) 1 :: rest →
        (∀ x, s.ibuf.read a = some x → step s = .next { answered with readData := some (0#24 ++ x) }) ∧
          (s.ibuf.read a = none →
            step s = .next { drawn with readData := some (0#24 ++ Config.freeByte s.draws) })) ∧
      ∀ k, k < s.params.outCap → s.hostQ = .read .obuf (s.params.obufBase + k) 4 :: rest →
        (s.busy = true ∨ s.obuf.read k = none → step s = .next drawn) ∧
          ∀ x, s.busy = false → s.obuf.read k = some x → step s = .next { answered with readData := some x }

/-- R232: `irq` falls when the host clears DONE (the engine being IDLE), when it writes CTRL.IE = 0, when a command is
accepted, and at either reset; reading STATUS does not clear it. -/
def Obligations.IrqFalls : Prop :=
  ∀ (s : State) (v : Word),
    (s.busy = false → v.getLsbD 1 = true → (s.writeReg .status v).irq = false) ∧
      (v.getLsbD 0 = false → (s.writeReg .ctrl v).irq = false) ∧ (s.accept v).irq = false ∧
      s.softReset.irq = false ∧ s.powerOn.irq = false ∧ (s.readReg .status).irq = s.irq

/-! ### Steps -/

/-- A step runs the decoded instruction: the accepted CMD word, or the stream byte at the cursor of a command in
flight, read in the format that command awaits. A cursor at or beyond IN_LEN is TRUNCATED there (R222), and an IDLE
engine, or one with time left, lets the host move. Time left to the host, and items as steps, are the model's choices
(log 1, log 2). -/
def Obligations.StepRunsTheDecodedInstruction : Prop :=
  ∀ (s : State) (w : Word),
    (s.engine = .busy w 0 none → step s = exec (decode .cmd w) s) ∧
      (∀ (r : Run) (x : Byte), s.engine = .busy w 0 (some r) → r.cur < s.inLen.toNat →
        s.ibuf.read r.cur = some x → step s = exec (decode (r.format s.params.bs) (x.setWidth 32)) s) ∧
      (∀ r : Run, s.engine = .busy w 0 (some r) → s.inLen.toNat ≤ r.cur →
        step s = .next (s.faultEntry .truncated r.cur s.runningWriteSet)) ∧
      (s.engine = .idle → step s = s.hostTurn) ∧
      ∀ (left : Nat) (run : Option Run), s.engine = .busy w (left + 1) run → step s = s.hostTurn

/-- R227: what fault entry leaves. ERR_OFF and ERRCODE name the fault, ERR and DONE are set, the phase is IDLE (so
BUSY reads 0), CTRL.IE and every other register keep their values (staged writes are discarded), and `irq` is IE. -/
def Obligations.FaultEntryState : Prop :=
  ∀ (s : State) (code : FaultCode) (off n : Nat),
    (s.faultEntry code off n).errOff = BitVec.ofNat 32 off ∧ (s.faultEntry code off n).errCode = code.code ∧
      (s.faultEntry code off n).err = true ∧ (s.faultEntry code off n).done = true ∧
      (s.faultEntry code off n).busy = false ∧ (s.faultEntry code off n).engine = .idle ∧
      s.sameRegisters (s.faultEntry code off n) ∧ (s.faultEntry code off n).irq = s.ie ∧
      (s.faultEntry code off n).ibuf = s.ibuf

/-! ### The scalar commands -/

/-- R131: LDLE under either IL bit. A width other than 1, 2, 4, 8 is BAD_PARAM at CUR; a load past IN_LEN is TRUNCATED
at CUR; otherwise the little-endian value of the bytes goes to RESULT_HI:RESULT_LO, CONSUMED is 0 and nothing else but
completion changes. IN_LEN ≤ IN_CAP is the prologue's condition (R241). -/
def Obligations.LdleResult : Prop :=
  (∀ il : Bool, decodeCmd (cmdWord il 1) = .ldle il) ∧
  ∀ (il : Bool) (s : State), s.inLen.toNat ≤ s.params.inCap →
    (s.bw.toNat ∉ [1, 2, 4, 8] → exec (.ldle il) s = .next (s.faulted .badParam s.cur)) ∧
      (s.bw.toNat ∈ [1, 2, 4, 8] → s.inLen.toNat < s.cur.toNat + s.bw.toNat →
        exec (.ldle il) s = .next (s.faulted .truncated s.cur)) ∧
      ∀ xs : List Byte, s.bw.toNat ∈ [1, 2, 4, 8] → xs.length = s.bw.toNat → s.holds s.cur.toNat xs →
        exec (.ldle il) s = .next { s with
          resultLo := BitVec.ofNat 32 (leNat xs)
          resultHi := BitVec.ofNat 32 (leNat xs / 2 ^ 32)
          consumed := 0
          done := true
          engine := .idle }

/-- R133: BASEVAL under either IL bit, over the three forms of R110. With the bytes at hand, RESULT_LO is the value,
RESULT_HI 0, and CUR and CONSUMED move by the length. No byte at CUR, or a form that needs bytes beyond IN_LEN, is
TRUNCATED at CUR; a first byte of 0xE0 or more is BASEVAL_RSV at CUR, whatever follows. -/
def Obligations.BasevalResult : Prop :=
  (∀ il : Bool, decodeCmd (cmdWord il 2) = .baseval il) ∧
  ∀ (il : Bool) (s : State), s.inLen.toNat ≤ s.params.inCap →
    (s.inLen.toNat ≤ s.cur.toNat → exec (.baseval il) s = .next (s.faulted .truncated s.cur)) ∧
      ∀ x : Byte, s.cur.toNat < s.inLen.toNat → s.ibuf.read s.cur.toNat = some x →
        (224 ≤ x.toNat → exec (.baseval il) s = .next (s.faulted .basevalRsv s.cur)) ∧
          (128 ≤ x.toNat → x.toNat < 192 → s.inLen.toNat < s.cur.toNat + 2 →
            exec (.baseval il) s = .next (s.faulted .truncated s.cur)) ∧
          (192 ≤ x.toNat → x.toNat < 224 → s.inLen.toNat < s.cur.toNat + 3 →
            exec (.baseval il) s = .next (s.faulted .truncated s.cur)) ∧
          ∀ (xs : List Byte) (v : Word), basevalForm (decode .basevalByte (x.setWidth 32)) xs v →
            s.regionHolds (s.cur.toNat + 1) xs →
              exec (.baseval il) s = .next { s with
                resultLo := v
                resultHi := 0
                cur := BitVec.ofNat 32 (s.cur.toNat + (xs.length + 1))
                consumed := BitVec.ofNat 32 (xs.length + 1)
                done := true
                engine := .idle }

/-- R135: VB under either IL bit, over the five forms of R111; the first bytes 0xFB–0xFF are VB_RSV at CUR, and a
scalar that needs bytes beyond IN_LEN is TRUNCATED at CUR. -/
def Obligations.VbResult : Prop :=
  (∀ il : Bool, decodeCmd (cmdWord il 3) = .vb il) ∧
  ∀ (il : Bool) (s : State), s.inLen.toNat ≤ s.params.inCap →
    (s.inLen.toNat ≤ s.cur.toNat → exec (.vb il) s = .next (s.faulted .truncated s.cur)) ∧
      ∀ x : Byte, s.cur.toNat < s.inLen.toNat → s.ibuf.read s.cur.toNat = some x →
        (251 ≤ x.toNat → exec (.vb il) s = .next (s.faulted .vbRsv s.cur)) ∧
          (∀ len, (177 ≤ x.toNat ∧ x.toNat ≤ 240 ∧ len = 2) ∨ (241 ≤ x.toNat ∧ x.toNat ≤ 248 ∧ len = 3) ∨
              (x.toNat = 249 ∧ len = 4) ∨ (x.toNat = 250 ∧ len = 5) →
            s.inLen.toNat < s.cur.toNat + len → exec (.vb il) s = .next (s.faulted .truncated s.cur)) ∧
          ∀ (xs : List Byte) (v : Nat), vbForm (decode .vbByte (x.setWidth 32)) xs v →
            s.regionHolds (s.cur.toNat + 1) xs →
              exec (.vb il) s = .next { s with
                resultLo := BitVec.ofNat 32 v
                resultHi := 0
                cur := BitVec.ofNat 32 (s.cur.toNat + (xs.length + 1))
                consumed := BitVec.ofNat 32 (xs.length + 1)
                done := true
                engine := .idle }

/-! ### The unpackers and the scan -/

/-- R158: UNPACK under either IL bit. A width above 32 is BAD_PARAM, then an output past OUT_CAP is OUT_RANGE, then a
region past IN_LEN is TRUNCATED, all at CUR; otherwise the COUNT fields of the region go to OBUF from OUT_IDX on and
CUR, OUT_IDX and CONSUMED move by the region's size and the count. -/
def Obligations.UnpackResult : Prop :=
  (∀ il : Bool, decodeCmd (cmdWord il 4) = .unpack il) ∧
  ∀ (il : Bool) (s : State) (size : Nat), s.inLen.toNat ≤ s.params.inCap →
    size = ceilDiv (s.count.toNat * s.bw.toNat) 8 →
    (32 < s.bw.toNat → exec (.unpack il) s = .next (s.faulted .badParam s.cur)) ∧
      (s.bw.toNat ≤ 32 → s.params.outCap < s.outIdx.toNat + s.count.toNat →
        exec (.unpack il) s = .next (s.faulted .outRange s.cur)) ∧
      (s.bw.toNat ≤ 32 → s.outIdx.toNat + s.count.toNat ≤ s.params.outCap → size ≠ 0 →
        s.inLen.toNat < s.cur.toNat + size →
        exec (.unpack il) s = .next (s.faultEntry .truncated s.cur.toNat s.count.toNat)) ∧
      ∀ xs : List Byte, s.bw.toNat ≤ 32 → s.outIdx.toNat + s.count.toNat ≤ s.params.outCap → xs.length = size →
        s.regionHolds s.cur.toNat xs →
          exec (.unpack il) s = .next { s with
            obuf := s.obuf.writeAll s.outIdx.toNat ((List.range s.count.toNat).map fun k =>
              BitVec.ofNat 32 (field s.params.contigMode (leNat xs) k s.bw.toNat))
            cur := BitVec.ofNat 32 (s.cur.toNat + size)
            outIdx := BitVec.ofNat 32 (s.outIdx.toNat + s.count.toNat)
            consumed := BitVec.ofNat 32 size
            done := true
            engine := .idle }

/-- R159: UNPACK_IL under either IL bit. COUNT ≠ BS, or a width above 32, is BAD_PARAM; then OUT_RANGE; then
TRUNCATED; otherwise the BS interleaved fields of the region go to OBUF from OUT_IDX on. -/
def Obligations.UnpackIlResult : Prop :=
  (∀ il : Bool, decodeCmd (cmdWord il 5) = .unpackIl il) ∧
  ∀ (il : Bool) (s : State) (size : Nat), s.inLen.toNat ≤ s.params.inCap → size = s.params.bs * s.bw.toNat / 8 →
    (s.count.toNat ≠ s.params.bs ∨ 32 < s.bw.toNat →
      exec (.unpackIl il) s = .next (s.faulted .badParam s.cur)) ∧
      (s.count.toNat = s.params.bs → s.bw.toNat ≤ 32 → s.params.outCap < s.outIdx.toNat + s.params.bs →
        exec (.unpackIl il) s = .next (s.faulted .outRange s.cur)) ∧
      (s.count.toNat = s.params.bs → s.bw.toNat ≤ 32 → s.outIdx.toNat + s.params.bs ≤ s.params.outCap →
        size ≠ 0 → s.inLen.toNat < s.cur.toNat + size →
        exec (.unpackIl il) s = .next (s.faultEntry .truncated s.cur.toNat s.params.bs)) ∧
      ∀ xs : List Byte, s.count.toNat = s.params.bs → s.bw.toNat ≤ 32 →
        s.outIdx.toNat + s.params.bs ≤ s.params.outCap → xs.length = size → s.regionHolds s.cur.toNat xs →
          exec (.unpackIl il) s = .next { s with
            obuf := s.obuf.writeAll s.outIdx.toNat ((List.range s.params.bs).map fun p =>
              BitVec.ofNat 32 (ilGap (leNat xs) p s.bw.toNat))
            cur := BitVec.ofNat 32 (s.cur.toNat + size)
            outIdx := BitVec.ofNat 32 (s.outIdx.toNat + s.params.bs)
            consumed := BitVec.ofNat 32 size
            done := true
            engine := .idle }

/-- SCAN under either IL bit (R182), whatever IN_LEN is. An output past OUT_CAP is OUT_RANGE at CUR; a word never
written since power-on stops the model (R62), at the first such word, which is the model's reading of the order (log
10, DEDUCED); otherwise the COUNT words from OUT_IDX on are replaced by their delta-plus-one scan from PREV, PREV is the
last identifier (unchanged for COUNT = 0), OUT_IDX moves by COUNT and CONSUMED is 0. -/
def Obligations.ScanResult : Prop :=
  (∀ il : Bool, decodeCmd (cmdWord il 6) = .scan il) ∧
  ∀ (il : Bool) (s : State),
    (s.params.outCap < s.outIdx.toNat + s.count.toNat → exec (.scan il) s = .next (s.faulted .outRange s.cur)) ∧
      (s.outIdx.toNat + s.count.toNat ≤ s.params.outCap →
        ∀ k, k < s.count.toNat → s.obuf.read (s.outIdx.toNat + k) = none →
          (∀ j, j < k → (s.obuf.read (s.outIdx.toNat + j)).isSome = true) →
            exec (.scan il) s = .fault (.unwrittenWord (s.outIdx.toNat + k))) ∧
      ∀ g : List Word, s.outIdx.toNat + s.count.toNat ≤ s.params.outCap → g.length = s.count.toNat →
        s.obufHolds s.outIdx.toNat g →
          exec (.scan il) s = .next { s with
            obuf := s.obuf.writeAll s.outIdx.toNat (scan s.prev g)
            prev := (scan s.prev g).getLastD s.prev
            outIdx := BitVec.ofNat 32 (s.outIdx.toNat + s.count.toNat)
            consumed := 0
            done := true
            engine := .idle }

/-- R170, and the inference the spec draws from it in R185 ("exactly when no step wraps"): each output of the scan is
`prev` plus the stored gaps so far plus one for each, mod 2^32; the outputs are strictly increasing, from `prev` on,
exactly where no step wraps, that is where `prev + Σ (g + 1)` stays below 2^32. -/
def Obligations.ScanIsMonotone : Prop :=
  ∀ (prev : Word) (g : List Word),
    (∀ i, i < g.length →
      (scan prev g)[i]? =
        some (BitVec.ofNat 32 (prev.toNat + ((g.take (i + 1)).map fun w => w.toNat + 1).sum))) ∧
      (List.Pairwise (fun a b : Word => a.toNat < b.toNat) (prev :: scan prev g) ↔
        prev.toNat + (g.map fun w => w.toNat + 1).sum ≤ 2 ^ 32 - 1)

/-- Moving the seed by Δ moves every output by Δ, for the scan and for a decoded block (an inference the spec draws in
R186 from R170, "by induction on i"). -/
def Obligations.SeedIndependence : Prop :=
  (∀ (prev d : Word) (g : List Word), scan (prev + d) g = (scan prev g).map (· + d)) ∧
    ∀ (s : State) (c num : Nat) (il : Bool) (prev d : Word) (out : List Word) (e : Nat),
      s.decodeBlock c num il prev = .ok (out, e) →
        s.decodeBlock c num il (prev + d) = .ok (out.map (· + d), e)

/-! ### Blocks -/

/-- R183: BLOCK, IL = 0 and IL = 1. COUNT = 0 or COUNT > BS is BAD_PARAM, then an output past OUT_CAP is OUT_RANGE,
both at CUR; then a fault of DecodeBlock (R171) is taken with the COUNT words of the write set unspecified; otherwise
its identifiers go to OBUF from OUT_IDX on, PREV is the last of them, and CUR, OUT_IDX and CONSUMED move past the
block. -/
def Obligations.BlockResult : Prop :=
  decodeCmd 0x00000007 = .block ∧ decodeCmd 0x00000017 = .blockIl ∧
  ∀ (i : Instr) (il : Bool) (s : State), (i = .block ∧ il = false) ∨ (i = .blockIl ∧ il = true) →
    s.inLen.toNat ≤ s.params.inCap →
    (s.count.toNat = 0 ∨ s.params.bs < s.count.toNat → exec i s = .next (s.faulted .badParam s.cur)) ∧
      (1 ≤ s.count.toNat → s.count.toNat ≤ s.params.bs → s.params.outCap < s.outIdx.toNat + s.count.toNat →
        exec i s = .next (s.faulted .outRange s.cur)) ∧
      (1 ≤ s.count.toNat → s.count.toNat ≤ s.params.bs → s.outIdx.toNat + s.count.toNat ≤ s.params.outCap →
        (∀ code off, s.decodeBlock s.cur.toNat s.count.toNat il s.prev = .error (.engine code off) →
          exec i s = .next (s.faultEntry code off s.count.toNat)) ∧
          ∀ (out : List Word) (e : Nat), s.decodeBlock s.cur.toNat s.count.toNat il s.prev = .ok (out, e) →
            exec i s = .next { s with
              obuf := s.obuf.writeAll s.outIdx.toNat out
              prev := out.getLastD s.prev
              cur := BitVec.ofNat 32 e
              outIdx := BitVec.ofNat 32 (s.outIdx.toNat + s.count.toNat)
              consumed := BitVec.ofNat 32 (e - s.cur.toNat)
              done := true
              engine := .idle })

/-- BLOCK completes on a CONSTANT block and on a FOR block of either flavour, under conditions on the registers and
the bytes of IBUF alone (R171, R173–R175, R183): legal COUNT, output range and width, the header and the body's bytes
written and below IN_LEN. -/
def Obligations.BlockCompletesOnConstantAndFor : Prop :=
  ∀ (i : Instr) (il : Bool) (s : State) (h : Byte) (b : Nat) (xs : List Byte) (g : List Word),
    (i = .block ∧ il = false) ∨ (i = .blockIl ∧ il = true) → s.inLen.toNat ≤ s.params.inCap →
    1 ≤ s.count.toNat → s.count.toNat ≤ s.params.bs → s.outIdx.toNat + s.count.toNat ≤ s.params.outCap →
    s.holds s.cur.toNat (h :: xs) → b = (h.extractLsb' 0 6).toNat → b ≤ 32 →
    (decodeType h = .constant ∧ xs.length = ceilDiv b 8 ∧
        g = List.replicate s.count.toNat (BitVec.ofNat 32 (leNat xs % 2 ^ b))) ∨
      (decodeType h = .for_ ∧
        xs.length = packedSize s.params.bs s.count.toNat b (il && decide (s.count.toNat = s.params.bs)) ∧
        g = unpackFields s.params (leNat xs) s.count.toNat b (il && decide (s.count.toNat = s.params.bs))) →
      exec i s = .next { s with
        obuf := s.obuf.writeAll s.outIdx.toNat (scan s.prev g)
        prev := (scan s.prev g).getLastD s.prev
        cur := BitVec.ofNat 32 (s.cur.toNat + 1 + xs.length)
        outIdx := BitVec.ofNat 32 (s.outIdx.toNat + s.count.toNat)
        consumed := BitVec.ofNat 32 (1 + xs.length)
        done := true
        engine := .idle }

/-- R171: no header byte below IN_LEN is TRUNCATED at it; a width b above 32 is BAD_WIDTH at it for every type;
otherwise TYPE selects the block decoder, in the interleaved flavour exactly where IL = 1 and the block is full
(CONSTANT has one flavour), whose fault is the block's fault, and whose stored gaps are scanned from `prev`. -/
def Obligations.DispatcherSelectsTheBlockDecoder : Prop :=
  ∀ (s : State) (c num : Nat) (il : Bool) (prev : Word) (h : Byte) (b : Nat) (useIL : Bool) (r : Res (List Word × Nat)),
    b = (h.extractLsb' 0 6).toNat → (useIL = true ↔ il = true ∧ num = s.params.bs) →
    (s.inLen.toNat ≤ c → s.decodeBlock c num il prev = .error (.engine .truncated c)) ∧
      (c < s.inLen.toNat → s.ibuf.read c = some h →
        (33 ≤ b → s.decodeBlock c num il prev = .error (.engine .badWidth c)) ∧
          (b ≤ 32 →
            (h.extractLsb' 6 2 = 3 ∧ r = s.constantGaps c num b) ∨ (h.extractLsb' 6 2 = 0 ∧ r = s.forGaps c num b useIL) ∨
                (h.extractLsb' 6 2 = 2 ∧ r = s.pforBitmapGaps c num b useIL) ∨
                (h.extractLsb' 6 2 = 1 ∧ r = s.pforVbGaps c num b useIL) →
              (∀ stop, r = .error stop → s.decodeBlock c num il prev = .error stop) ∧
                ∀ (g : List Word) (e : Nat), r = .ok (g, e) → s.decodeBlock c num il prev = .ok (scan prev g, e)))

/-- R173: the stored gaps of a CONSTANT block, b ≤ 32: TRUNCATED at c + 1 if the value bytes are missing, otherwise
`num` times the value truncated to b bits, ending after them. -/
def Obligations.ConstantBlockGaps : Prop :=
  ∀ (s : State) (c num b : Nat), b ≤ 32 →
    (b ≠ 0 → s.inLen.toNat < c + 1 + ceilDiv b 8 →
      s.constantGaps c num b = .error (.engine .truncated (c + 1))) ∧
      ∀ xs : List Byte, xs.length = ceilDiv b 8 → s.regionHolds (c + 1) xs →
        s.constantGaps c num b = .ok (List.replicate num (BitVec.ofNat 32 (leNat xs % 2 ^ b)), c + 1 + xs.length)

/-- R174 and R175: the stored gaps of a FOR block in both flavours, b ≤ 32: TRUNCATED at c + 1 if the region reaches
past IN_LEN, otherwise the region's fields, in EXACT or WINDOW32 mode for the contiguous flavour and from the four
lanes for the interleaved one, ending after it. -/
def Obligations.ForBlockGaps : Prop :=
  ∀ (s : State) (c num b : Nat) (il : Bool) (size : Nat), b ≤ 32 →
    size = (if il then s.params.bs * b / 8 else ceilDiv (num * b) 8) →
    (size ≠ 0 → s.inLen.toNat < c + 1 + size → s.forGaps c num b il = .error (.engine .truncated (c + 1))) ∧
      ∀ xs : List Byte, xs.length = size → s.regionHolds (c + 1) xs →
        s.forGaps c num b il =
          .ok (if il then (List.range s.params.bs).map fun p => BitVec.ofNat 32 (ilGap (leNat xs) p b)
            else (List.range num).map fun k => BitVec.ofNat 32 (field s.params.contigMode (leNat xs) k b),
            c + 1 + size)

/-- R176 and R177. No BEXC byte below IN_LEN is TRUNCATED at c + 1, a BEXC byte above 32 is BAD_WIDTH there, and then
the bitmap's TRUNCATED. The exceptions are the bitmap's set bits below `num`; b = 32 with an exception is EXC_SHIFT at
the header, before the exception bits' and the base values' TRUNCATED; with every region at hand the gaps are the base
values with the exceptions' high parts ORed in, in position order, and the block ends after the base values. -/
def Obligations.PforBitmapBlockGaps : Prop :=
  ∀ (s : State) (c num b : Nat) (il : Bool) (e : Byte) (bm eb bv : List Byte) (pos : List Nat), b ≤ 32 →
    (s.inLen.toNat ≤ c + 1 → s.pforBitmapGaps c num b il = .error (.engine .truncated (c + 1))) ∧
      (c + 1 < s.inLen.toNat → s.ibuf.read (c + 1) = some e →
        (33 ≤ e.toNat → s.pforBitmapGaps c num b il = .error (.engine .badWidth (c + 1))) ∧
          (e.toNat ≤ 32 → bm.length = (if il then s.params.bs / 8 else ceilDiv num 8) →
            pos = (List.range num).filter (fun k => (leNat bm).testBit k) →
            (bm.length ≠ 0 → s.inLen.toNat < c + 2 + bm.length →
              s.pforBitmapGaps c num b il = .error (.engine .truncated (c + 2))) ∧
              (s.regionHolds (c + 2) bm →
                (pos ≠ [] → b = 32 → s.pforBitmapGaps c num b il = .error (.engine .excShift c)) ∧
                  (pos = [] ∨ b ≠ 32 → eb.length = ceilDiv (pos.length * e.toNat) 8 →
                    (eb.length ≠ 0 → s.inLen.toNat < c + 2 + bm.length + eb.length →
                      s.pforBitmapGaps c num b il = .error (.engine .truncated (c + 2 + bm.length))) ∧
                      (eb.length = 0 ∨ c + 2 + bm.length + eb.length ≤ s.inLen.toNat →
                        bv.length = packedSize s.params.bs num b il →
                        (bv.length ≠ 0 → s.inLen.toNat < c + 2 + bm.length + eb.length + bv.length →
                          s.pforBitmapGaps c num b il =
                            .error (.engine .truncated (c + 2 + bm.length + eb.length))) ∧
                          (s.regionHolds (c + 2 + bm.length) eb →
                            s.regionHolds (c + 2 + bm.length + eb.length) bv →
                            s.pforBitmapGaps c num b il =
                              .ok (orAll b (unpackFields s.params (leNat bv) num b il)
                                  (pos.zip ((List.range pos.length).map fun r =>
                                    BitVec.ofNat 32 (field s.params.contigMode (leNat eb) r e.toNat))),
                                c + 2 + bm.length + eb.length + bv.length)))))))

/-- R178 and R179, N being the NEXC byte (TRUNCATED at c + 1 without one below IN_LEN): b = 32 with N > 0 is EXC_SHIFT
at the header, before the base values' TRUNCATED; then a fault of the exception area; then the index bytes must all
lie below IN_LEN; the first one not below `num` is EXC_INDEX at its address; otherwise the gaps are the base values
with the exceptions ORed in. -/
def Obligations.PforVbBlockGaps : Prop :=
  ∀ (s : State) (c num b : Nat) (il : Bool) (n : Byte) (bv ix : List Byte) (xs : List Word) (e : Nat), b ≤ 32 →
    (s.inLen.toNat ≤ c + 1 → s.pforVbGaps c num b il = .error (.engine .truncated (c + 1))) ∧
      (c + 1 < s.inLen.toNat → s.ibuf.read (c + 1) = some n → bv.length = packedSize s.params.bs num b il →
        (n ≠ 0 → b = 32 → s.pforVbGaps c num b il = .error (.engine .excShift c)) ∧
          (n = 0 ∨ b ≠ 32 → bv.length ≠ 0 → s.inLen.toNat < c + 2 + bv.length →
            s.pforVbGaps c num b il = .error (.engine .truncated (c + 2))) ∧
          (n = 0 ∨ b ≠ 32 → s.regionHolds (c + 2) bv →
            (∀ stop, s.excArea (c + 2 + bv.length) n.toNat = .error stop →
              s.pforVbGaps c num b il = .error stop) ∧
              (s.excArea (c + 2 + bv.length) n.toNat = .ok (xs, e) →
                (n ≠ 0 → s.inLen.toNat < e + n.toNat →
                  s.pforVbGaps c num b il = .error (.engine .truncated e)) ∧
                  (ix.length = n.toNat → s.regionHolds e ix →
                    (∀ k, k < ix.length → num ≤ (ix.getD k 0).toNat →
                      (∀ j, j < k → (ix.getD j 0).toNat < num) →
                        s.pforVbGaps c num b il = .error (.engine .excIndex (e + k))) ∧
                      ((∀ x ∈ ix, x.toNat < num) →
                        s.pforVbGaps c num b il =
                          .ok (orAll b (unpackFields s.params (leNat bv) num b il) ((ix.map BitVec.toNat).zip xs),
                            e + n.toNat))))))

/-- R180: the exception area. Empty, it ends where it starts, but for a byte 0xFF below IN_LEN, which FAULT_ON_FF
turns into VB_EMPTY_AMBIG there and CONSUME consumes. Not empty, a first byte 0xFF is followed by N little-endian
4-byte values, a value past IN_LEN being TRUNCATED at its own first byte; any other first byte is the first of N vb
scalars in a row. -/
def Obligations.ExceptionAreaForms : Prop :=
  ∀ (s : State) (e : Nat),
    (s.params.vbEmpty = .noRead ∨ s.inLen.toNat ≤ e → s.excArea e 0 = .ok ([], e)) ∧
      (∀ x : Byte, e < s.inLen.toNat → s.ibuf.read e = some x →
        (x ≠ 0xFF → s.excArea e 0 = .ok ([], e)) ∧
          (x = 0xFF → s.params.vbEmpty = .faultOnFf → s.excArea e 0 = .error (.engine .vbEmptyAmbig e)) ∧
          (x = 0xFF → s.params.vbEmpty = .consume → s.excArea e 0 = .ok ([], e + 1))) ∧
      (∀ n, 1 ≤ n → s.inLen.toNat ≤ e → s.excArea e n = .error (.engine .truncated e)) ∧
      (∀ vs : List Word, 1 ≤ vs.length → s.holds e (0xFF#8 :: vs.flatMap fun v => leBytes 4 v.toNat) →
        s.excArea e vs.length = .ok (vs, e + 1 + 4 * vs.length)) ∧
      (∀ (vs : List Word) (n : Nat), vs.length < n →
        s.holds e (0xFF#8 :: vs.flatMap fun v => leBytes 4 v.toNat) → s.inLen.toNat < e + 1 + 4 * vs.length + 4 →
          s.excArea e n = .error (.engine .truncated (e + 1 + 4 * vs.length))) ∧
      ∀ (x : Byte) (n : Nat), e < s.inLen.toNat → s.ibuf.read e = some x → x ≠ 0xFF →
        s.excArea e (n + 1) = (s.decodeVb e >>= fun p =>
          s.vbValues (e + p.2) n >>= fun q => .ok (p.1 :: q.1, q.2))

/-- R181 items 1, 3 and 4: the value at position `i` is its base ORed with each of its exceptions shifted left by b,
mod 2^32; exceptions at one position OR together, and positions without one are unchanged. -/
def Obligations.ExceptionsOrTogether : Prop :=
  ∀ (b : Nat) (g : List Word) (es : List (Nat × Word)) (i : Nat),
    (orAll b g es)[i]? =
      (g[i]?).map fun w => ((es.filter fun e => decide (e.1 = i)).map fun e => BitVec.ofNat 32 (e.2.toNat * 2 ^ b)).foldl
        (· ||| ·) w

/-- A decoded block has exactly `num` identifiers, and its cursor moves forward and not past IN_LEN (R171, R216). -/
def Obligations.DecodedBlockShape : Prop :=
  ∀ (s : State) (c num : Nat) (il : Bool) (prev : Word) (out : List Word) (e : Nat),
    s.decodeBlock c num il prev = .ok (out, e) → out.length = num ∧ c < e ∧ e ≤ s.inLen.toNat

/-- The inference the spec draws in R187 ("both flavours … produce the same `out`"), for the three types that have two
flavours. On a full block whose packed base values hold the same fields, interleaved in `s` at `a` and contiguous in
`t` at `a'`, and whose other bytes are the same (PFOR_BITMAP: everything between the header and the base values;
PFOR_VB: NEXC and everything after the base values, in streams that end alike), both flavours give the same stored gaps
and consume the same number of bytes. -/
def Obligations.InterleavedEqualsContiguous : Prop :=
  ∀ (s t : State) (a a' b : Nat) (g g' : List Word) (e e' : Nat),
    s.params = t.params → s.params.contigMode = .exact → b ≤ 32 →
    (s.sameBase t (a + 1) (a' + 1) b → s.forGaps a s.params.bs b true = .ok (g, e) →
      t.forGaps a' s.params.bs b false = .ok (g', e') → g = g' ∧ e - a = e' - a') ∧
      (s.sameBase t (e - s.params.bs * b / 8) (e' - ceilDiv (s.params.bs * b) 8) b →
        (∀ k, 1 ≤ k → k < e - a - s.params.bs * b / 8 → s.ibuf.read (a + k) = t.ibuf.read (a' + k)) →
        s.pforBitmapGaps a s.params.bs b true = .ok (g, e) →
          t.pforBitmapGaps a' s.params.bs b false = .ok (g', e') → g = g' ∧ e - a = e' - a') ∧
      (s.sameBase t (a + 2) (a' + 2) b → s.inLen.toNat + a' = t.inLen.toNat + a →
        (∀ k, k = 1 ∨ 2 + s.params.bs * b / 8 ≤ k → s.ibuf.read (a + k) = t.ibuf.read (a' + k)) →
        s.pforVbGaps a s.params.bs b true = .ok (g, e) →
          t.pforVbGaps a' s.params.bs b false = .ok (g', e') → g = g' ∧ e - a = e' - a')

/-! ### The bit readers -/

/-- EXACT reads the exact field and WINDOW32 the window's; and the inferences the spec draws in R151 ("Its result is
therefore", "It differs … only for"): read `k` of the source's contiguous procedure gives the WINDOW32 field, for
every stream (bytes past the region contribute nothing); that is the exact field cut to its low `32 − (k·b mod 8)`
bits, so the two differ only for b in {27, 29, 30, 31} and only at reads with `(k·b mod 8) + b > 32`. -/
def Obligations.ContiguousReaderIsWindow32 : Prop :=
  ∀ r b k : Nat, 1 ≤ b → b ≤ 32 →
    field .exact r k b = contigField r k b ∧ field .window32 r k b = window32Field r k b ∧
      (contigRead r b (contigReaderAt r b k)).1 = window32Field r k b ∧
      window32Field r k b = contigField r k b % 2 ^ (32 - k * b % 8) ∧
      (k * b % 8 + b ≤ 32 ∨ b ∉ [27, 29, 30, 31] → window32Field r k b = contigField r k b)

/-- The inference the spec draws in R155 ("This procedure computes exactly `IlField`"): read `i` of the source's lane
procedure, from lane `j`'s offset, for every width 1 to 32. -/
def Obligations.LaneReaderIsIlField : Prop :=
  ∀ r b j i : Nat, 1 ≤ b → b ≤ 32 → j < 4 → (laneRead r b (laneReaderAt r b j i)).1 = ilField r j i b

/-! ### The sequence driver -/

/-- R210: SEQ, IL = 0 and IL = 1. OUT_RANGE first; COUNT = 0 then changes nothing but CONSUMED; a fault of the stream
is taken with the write set unspecified; otherwise the decoded identifiers go to OBUF and the registers move past
them. -/
def Obligations.SeqResult : Prop :=
  decodeCmd 0x00000008 = .seq ∧ decodeCmd 0x00000018 = .seqIl ∧
  ∀ (i : Instr) (il : Bool) (s : State), (i = .seq ∧ il = false) ∨ (i = .seqIl ∧ il = true) →
    s.inLen.toNat ≤ s.params.inCap →
    (s.params.outCap < s.outIdx.toNat + s.count.toNat → exec i s = .next (s.faulted .outRange s.cur)) ∧
      (s.outIdx.toNat + s.count.toNat ≤ s.params.outCap →
        (s.count.toNat = 0 → exec i s = .next { s with consumed := 0, done := true, engine := .idle }) ∧
          (1 ≤ s.count.toNat →
            (∀ code off, s.decodeSeq s.cur.toNat s.count.toNat il = .error (.engine code off) →
              exec i s = .next (s.faultEntry code off s.count.toNat)) ∧
              ∀ (out : List Word) (e : Nat), s.decodeSeq s.cur.toNat s.count.toNat il = .ok (out, e) →
                exec i s = .next { s with
                  obuf := s.obuf.writeAll s.outIdx.toNat out
                  prev := out.getLastD s.prev
                  cur := BitVec.ofNat 32 e
                  outIdx := BitVec.ofNat 32 (s.outIdx.toNat + s.count.toNat)
                  consumed := BitVec.ofNat 32 (e - s.cur.toNat)
                  done := true
                  engine := .idle }))

/-- SEQ completes on one identifier, in conditions on the registers and the bytes of IBUF alone, over the three
baseval forms (R210 corner "only a seed, no block"): the seed is written as it is (R214 item 1), PREV becomes it. -/
def Obligations.SeqOfOneIsItsSeed : Prop :=
  ∀ (i : Instr) (s : State) (x : Byte) (xs : List Byte) (v : Word), i = .seq ∨ i = .seqIl →
    s.inLen.toNat ≤ s.params.inCap → s.count = 1 → s.outIdx.toNat + 1 ≤ s.params.outCap →
    s.holds s.cur.toNat (x :: xs) → basevalForm (decode .basevalByte (x.setWidth 32)) xs v →
      exec i s = .next { s with
        obuf := s.obuf.write s.outIdx.toNat v
        prev := v
        cur := BitVec.ofNat 32 (s.cur.toNat + (1 + xs.length))
        outIdx := BitVec.ofNat 32 (s.outIdx.toNat + 1)
        consumed := BitVec.ofNat 32 (1 + xs.length)
        done := true
        engine := .idle }

/-- R214 item 3: SEQ ignores the incoming PREV. Where it succeeds on a nonempty sequence, any other PREV gives the
very same state. -/
def Obligations.SeqIgnoresPrev : Prop :=
  ∀ (i : Instr) (s t : State) (p : Word), i = .seq ∨ i = .seqIl → s.count ≠ 0 → s.err = false →
    exec i s = .next t → t.err = false → exec i { s with prev := p } = .next t

/-! ### Illegal commands and the prologue -/

/-- R226 item 1, R241: every ILLEGAL_CMD word takes the fault ILLEGAL_CMD with ERR_OFF = CUR; OBUF and every other
register are unchanged. -/
def Obligations.IllegalCommandsFault : Prop :=
  ∀ (i : Instr) (s : State), i.isIllegalCmd = true → exec i s = .next (s.faulted .illegalCmd s.cur)

/-- R226 item 2, R241: IN_LEN above IN_CAP is BAD_PARAM at CUR for every command but SCAN, before anything else. -/
def Obligations.OversizedInputIsBadParam : Prop :=
  ∀ (i : Instr) (s : State), i.isCommand = true → (∀ il, i ≠ .scan il) → s.params.inCap < s.inLen.toNat →
    exec i s = .next (s.faulted .badParam s.cur)

/-- R62: a command that reads an IBUF byte never written since power-on stops the model, which invents no value, at
the first such byte. Said of LDLE. The order in which bytes are read is the pseudocode's (log 10). -/
def Obligations.UnwrittenReadsStop : Prop :=
  ∀ (il : Bool) (s : State), s.inLen.toNat ≤ s.params.inCap → s.bw.toNat ∈ [1, 2, 4, 8] →
    s.cur.toNat + s.bw.toNat ≤ s.inLen.toNat →
      ∀ k, k < s.bw.toNat → s.ibuf.read (s.cur.toNat + k) = none →
        (∀ j, j < k → (s.ibuf.read (s.cur.toNat + j)).isSome = true) →
          exec (.ldle il) s = .fault (.unwrittenByte (s.cur.toNat + k))

/-! ### Stream items of a command in flight -/

/-- FOR headers (both widths, both flavours) and CONSTANT headers of a command in flight (R171, R173–R175): with the
body's bytes at hand the block's stored gaps are scanned and the command goes on after it. Items as steps of a command
in flight are the model's choice (log 1). -/
def Obligations.ForAndConstantItems : Prop :=
  ∀ (i : Instr) (s : State) (w : Word) (left : Nat) (r : Run) (b : Nat) (xs : List Byte),
    s.engine = .busy w left (some r) → r.expect = .header → s.regionHolds (r.cur + 1) xs →
    (∀ il, i.headerOf = some (.for_, b, some il) → r.useIL s.params.bs = il →
      xs.length = packedSize s.params.bs (r.num s.params.bs) b il →
        exec i s = .next (s.advance w left (s.endBlock r
          (unpackFields s.params (leNat xs) (r.num s.params.bs) b il, r.cur + 1 + xs.length)))) ∧
      (i.headerOf = some (.constant, b, none) → xs.length = ceilDiv b 8 →
        exec i s = .next (s.advance w left (s.endBlock r
          (List.replicate (r.num s.params.bs) (BitVec.ofNat 32 (leNat xs % 2 ^ b)), r.cur + 1 + xs.length))))

/-- PFOR_BITMAP headers (both widths, both flavours) make the BEXC byte the next item. A legal BEXC byte, 0–31 or 32,
with the bitmap, the exception bits and the base values at hand, ends the block; b = 32 with an exception is EXC_SHIFT
at the header (R176, R177). Items as steps of a command in flight are the model's choice (log 1). -/
def Obligations.PforBitmapItems : Prop :=
  ∀ (i : Instr) (s : State) (w : Word) (left : Nat) (r : Run) (b : Nat),
    s.engine = .busy w left (some r) →
    (∀ il, r.expect = .header → i.headerOf = some (.pforBitmap, b, some il) → r.useIL s.params.bs = il →
      exec i s = .next { s with engine := .busy w left (some { r with
        cur := r.cur + 1
        expect := .bexc r.cur (r.num s.params.bs) b il }) }) ∧
      ∀ (hdr num E : Nat) (il : Bool) (bm eb bv : List Byte) (pos : List Nat), r.expect = .bexc hdr num b il →
        (∃ e : BitVec 5, i = .bexc e ∧ E = e.toNat) ∨ (i = .bexc32 ∧ E = 32) →
        bm.length = (if il then s.params.bs / 8 else ceilDiv num 8) → s.regionHolds (hdr + 2) bm →
        pos = (List.range num).filter (fun k => (leNat bm).testBit k) →
          (pos ≠ [] → b = 32 → exec i s = .next (s.faultEntry .excShift hdr s.runningWriteSet)) ∧
            (pos = [] ∨ b ≠ 32 → eb.length = ceilDiv (pos.length * E) 8 →
              bv.length = packedSize s.params.bs num b il → s.regionHolds (hdr + 2 + bm.length) eb →
              s.regionHolds (hdr + 2 + bm.length + eb.length) bv →
                exec i s = .next (s.advance w left (s.endBlock r
                  (orAll b (unpackFields s.params (leNat bv) num b il)
                      (pos.zip ((List.range pos.length).map fun k =>
                        BitVec.ofNat 32 (field s.params.contigMode (leNat eb) k E))),
                    hdr + 2 + bm.length + eb.length + bv.length))))

/-- PFOR_VB headers (both widths, both flavours) of a command in flight (R178, R179): with the NEXC byte and the base
values at hand, a block without exceptions ends after them where no 0xFF follows below IN_LEN or NO_READ is chosen
(R180), one with exceptions makes the exception area the next item, and b = 32 with an exception is EXC_SHIFT at the
header. Items as steps are the model's choice (log 1). -/
def Obligations.PforVbHeaderItems : Prop :=
  ∀ (i : Instr) (s : State) (w : Word) (left : Nat) (r : Run) (b : Nat) (il : Bool) (n : Byte) (xs : List Byte),
    s.engine = .busy w left (some r) → r.expect = .header → i.headerOf = some (.pforVb, b, some il) →
    r.useIL s.params.bs = il → r.cur + 1 < s.inLen.toNat → s.ibuf.read (r.cur + 1) = some n →
    (n ≠ 0 → b = 32 → exec i s = .next (s.faultEntry .excShift r.cur s.runningWriteSet)) ∧
      (s.regionHolds (r.cur + 2) xs → xs.length = packedSize s.params.bs (r.num s.params.bs) b il →
        (n = 0 →
          (s.inLen.toNat ≤ r.cur + 2 + xs.length ∨ s.params.vbEmpty = .noRead ∨
            ∃ y, s.ibuf.read (r.cur + 2 + xs.length) = some y ∧ y ≠ 0xFF) →
          exec i s = .next (s.advance w left (s.endBlock r
            (unpackFields s.params (leNat xs) (r.num s.params.bs) b il, r.cur + 2 + xs.length)))) ∧
          (n ≠ 0 → b ≠ 32 →
            exec i s = .next { s with engine := .busy w left (some { r with
              cur := r.cur + 2 + xs.length
              expect := .excArea (r.num s.params.bs) b n.toNat
                (unpackFields s.params (leNat xs) (r.num s.params.bs) b il) }) }))

/-- The first byte of an exception area (R109, R180): 0xFF reads the N escape values and then the index bytes, and the
block ends; any other byte leaves the cursor where it is and makes the vb scalars the next items. Items as steps are
the model's choice (log 1). -/
def Obligations.ExceptionAreaItems : Prop :=
  ∀ (s : State) (w : Word) (left : Nat) (r : Run) (num b n : Nat) (g : List Word),
    s.engine = .busy w left (some r) → r.expect = .excArea num b n g →
    (∀ x : Byte, exec (.excVb x) s =
      .next { s with engine := .busy w left (some { r with expect := .excVb num b n g [] }) }) ∧
      ∀ (vs : List Word) (ix : List Byte), vs.length = n → ix.length = n → (∀ x ∈ ix, x.toNat < num) →
        s.holds (r.cur + 1) ((vs.flatMap fun v => leBytes 4 v.toNat) ++ ix) →
          exec .excEsc s = .next (s.advance w left (s.endBlock r
            (orAll b g ((ix.map BitVec.toNat).zip vs), r.cur + 1 + 4 * n + n)))

/-- Baseval and vb scalars of a command in flight (R132, R134), over the three baseval and the five vb forms: the
result of BASEVAL and VB (R133, R135), SEQ's seed (R210), an exception value that is not the last (R180), and the last
one with the index bytes at hand (R178). Items as steps are the model's choice (log 1). -/
def Obligations.ScalarItems : Prop :=
  ∀ (i : Instr) (s : State) (w : Word) (left : Nat) (r : Run) (xs : List Byte),
    s.engine = .busy w left (some r) → s.regionHolds (r.cur + 1) xs →
    (∀ v : Word, basevalForm i xs v →
      (r.expect = .scalarBaseval → exec i s = .next (s.commitScalar v (xs.length + 1)).complete) ∧
        (r.expect = .seed →
          exec i s = .next (s.advance w left (s.nextBlock { r with
            cur := r.cur + (xs.length + 1), prev := v, out := [v], todo := r.todo - 1 })))) ∧
      ∀ v : Nat, vbForm i xs v →
        (r.expect = .scalarVb →
          exec i s = .next (s.commitScalar (BitVec.ofNat 32 v) (xs.length + 1)).complete) ∧
          ∀ (num b n : Nat) (g vs : List Word), r.expect = .excVb num b n g vs →
            (vs.length + 1 < n →
              exec i s = .next { s with engine := .busy w left (some { r with
                cur := r.cur + (xs.length + 1)
                expect := .excVb num b n g (vs ++ [BitVec.ofNat 32 v]) }) }) ∧
              ∀ ix : List Byte, vs.length + 1 = n → ix.length = n → (∀ x ∈ ix, x.toNat < num) →
                s.holds (r.cur + (xs.length + 1)) ix →
                  exec i s = .next (s.advance w left (s.endBlock r
                    (orAll b g ((ix.map BitVec.toNat).zip (vs ++ [BitVec.ofNat 32 v])),
                      r.cur + (xs.length + 1) + n)))

/-- The reserved items of a command in flight take their faults, whatever follows them: a header with b 33–63 and a
BEXC byte above 32 (R172), a baseval first byte of 0xE0 or more and a vb first byte of 0xFB or more (R223), each at
its own address. Items as steps are the model's choice (log 1). -/
def Obligations.ReservedItemsFault : Prop :=
  ∀ (s : State) (w : Word) (left : Nat) (r : Run), s.engine = .busy w left (some r) →
    (∀ (ty : BlockType) (b : BitVec 6), r.expect = .header →
      exec (.badWidth ty b) s = .next (s.faultEntry .badWidth r.cur s.runningWriteSet)) ∧
      (∀ (e : Byte) (hdr num b : Nat) (il : Bool), r.expect = .bexc hdr num b il →
        exec (.badWidthExc e) s = .next (s.faultEntry .badWidth r.cur s.runningWriteSet)) ∧
      (∀ low : BitVec 5, r.expect = .scalarBaseval ∨ r.expect = .seed →
        exec (.basevalRsv low) s = .next (s.faultEntry .basevalRsv r.cur s.runningWriteSet)) ∧
      ∀ x : Byte, r.expect = .scalarVb ∨ (∃ num b n g vs, r.expect = .excVb num b n g vs) →
        exec (.vbRsv x) s = .next (s.faultEntry .vbRsv r.cur s.runningWriteSet)

/-! ### Whole-machine statements -/

/-- Every step keeps the invariant: memories stay in canonical form and inside their buffers (R70, R71, R77), STATUS
stays consistent (R38–R42, R221), parameters stay legal (R8), and a command in flight stays within its COUNT and its
scratch array (R52, R55). -/
def Obligations.StepKeepsInvariant : Prop :=
  ∀ s t : State, s.Inv → step s = .next t → t.Inv

/-- No instruction, in success or fault, writes IBUF (R76), IN_LEN, COUNT, BW (R44, R45, R228), CTRL.IE (R227), OVR
(R241) or the parameters (R31), and no step at all changes the parameters. -/
def Obligations.EngineNeverWritesInputs : Prop :=
  (∀ (i : Instr) (s t : State), exec i s = .next t →
    t.ibuf = s.ibuf ∧ t.inLen = s.inLen ∧ t.count = s.count ∧ t.bw = s.bw ∧ t.ie = s.ie ∧ t.ovr = s.ovr ∧
      t.params = s.params ∧ t.hostQ = s.hostQ ∧ t.readData = s.readData) ∧
    ∀ s t : State, step s = .next t → s.sameParams t

/-- R77, R229: a command, in success or fault, leaves every OBUF word outside OUT_IDX … OUT_IDX + n − 1 unchanged, n
being its output count. Which words a fault leaves unspecified is read literally (log 8). -/
def Obligations.CommandsWriteOnlyTheirWriteSet : Prop :=
  ∀ (i : Instr) (s t : State), i.isCommand = true → exec i s = .next t →
    ∀ k, ¬ (s.outIdx.toNat ≤ k ∧ k < s.outIdx.toNat + s.writeSet i) → t.obuf.read k = s.obuf.read k

/-- R228, R242, R243: a command ends IDLE and DONE, and either succeeded, leaving ERR, ERRCODE and ERR_OFF, or
faulted, leaving CUR, IN_LEN, COUNT, OUT_IDX, PREV, BW, RESULT_LO, RESULT_HI and CONSUMED as they were before it. -/
def Obligations.CommandsAreAllOrNothing : Prop :=
  ∀ (i : Instr) (s t : State), i.isCommand = true → exec i s = .next t →
    t.engine = .idle ∧ t.done = true ∧
      ((t.err = s.err ∧ t.errCode = s.errCode ∧ t.errOff = s.errOff) ∨
        (s.sameRegisters t ∧ t.err = true ∧ t.errCode ≠ 0))

/-- R261 under the host's duty of R256: with every IBUF byte below IN_LEN written (asked of every command but SCAN), or,
for SCAN alone, with every OBUF word it reads written, every command completes, with success or with a fault, whatever
the registers and the rest of the buffers hold: no stream and no operand stops the machine. -/
def Obligations.EveryCommandCompletes : Prop :=
  ∀ (i : Instr) (s : State), i.isCommand = true → ((∀ il, i ≠ .scan il) → s.inputWritten) →
    (∀ il, i = .scan il → s.scanInputWritten) → ∃ t, exec i s = .next t ∧ t.engine = .idle ∧ t.done = true

/-- R74: a byte at or above IN_LEN is never read. Two states that agree on every IBUF byte below IN_LEN give the same
outcome of every instruction, but for IBUF itself. -/
def Obligations.BytesBeyondInLenNeverMatter : Prop :=
  ∀ (i : Instr) (s : State) (m : Memory Byte), (∀ a, a < s.inLen.toNat → m.read a = s.ibuf.read a) →
    (∀ t, exec i s = .next t → exec i { s with ibuf := m } = .next { t with ibuf := m }) ∧
      (∀ f, exec i s = .fault f → exec i { s with ibuf := m } = .fault f) ∧ ∀ x, exec i s ≠ .refused x

/-- R52, R83: a command that proceeds one stream item a step ends, after some number of steps, in the very state (or
stop) that running it in one step gives. So nothing observable depends on the model's free choice between the two (log
1). -/
def Obligations.ItemwiseAgreesWithAtomic : Prop :=
  ∀ (s : State) (w : Word) (r : Run), s.engine = .busy w 0 none → s.startRun w = some r →
    ∃ k, Host.Core.run Sys2Proof.core k { s with engine := .busy w 0 (some r) } = exec (decodeCmd w) s
end

