-- ==== Sys2Proof/Laws/Memory.lean ====
section
/-! SUPPORT. Memories: read after write, and every operation keeps the canonical form. -/

namespace Sys2Proof.Machine

variable {α : Type}

@[simp] theorem Memory.read_nil (a : Nat) : Memory.read ([] : Memory α) a = none := rfl

@[simp] theorem Memory.wf_nil : Memory.wf ([] : Memory α) = true := rfl

@[simp] theorem Memory.wf_single (p : Nat × α) : Memory.wf [p] = true := rfl

@[simp] theorem Memory.writeAll_nil (m : Memory α) (a : Nat) : m.writeAll a [] = m := rfl

@[simp] theorem Memory.writeAll_cons (m : Memory α) (a : Nat) (v : α) (vs : List α) :
    m.writeAll a (v :: vs) = (m.write a v).writeAll (a + 1) vs := rfl

@[simp] theorem Memory.scramble_zero (m : Memory Word) (o k cap : Nat) : m.scramble o k cap 0 = m := rfl

/-- Reading what was just written gives it. -/
@[simp] theorem Memory.read_write_same (m : Memory α) (a : Nat) (v : α) : (m.write a v).read a = some v := by
  induction m with
  | nil => simp [Memory.write, Memory.read]
  | cons p m ih =>
    obtain ⟨b, w⟩ := p
    simp only [Memory.write]
    split
    · simp [Memory.read]
    · split
      · simp [Memory.read]
      · simp [Memory.read, *]

/-- A write leaves every other address alone. -/
theorem Memory.read_write_other (m : Memory α) (a a' : Nat) (v : α) (h : a' ≠ a) :
    (m.write a v).read a' = m.read a' := by
  induction m with
  | nil => simp [Memory.write, Memory.read, h]
  | cons p m ih =>
    obtain ⟨b, w⟩ := p
    simp only [Memory.write]
    split
    · simp [Memory.read, h]
    · split
      · subst b; simp [Memory.read, h]
      · simp [Memory.read, ih]

/-- A value read after a write. -/
theorem Memory.read_write (m : Memory α) (a a' : Nat) (v : α) :
    (m.write a v).read a' = if a' = a then some v else m.read a' := by
  split
  · subst a'; simp
  · exact Memory.read_write_other m a a' v ‹_›

/-- The entries after a write. -/
theorem Memory.mem_write (m : Memory α) (a : Nat) (v : α) (p : Nat × α) (h : p ∈ m.write a v) :
    p = (a, v) ∨ p ∈ m := by
  induction m with
  | nil => exact .inl (by simpa [Memory.write] using h)
  | cons q m ih =>
    obtain ⟨b, w⟩ := q
    simp only [Memory.write] at h
    split at h
    · simpa using h
    · split at h
      · rcases List.mem_cons.1 h with h | h
        · exact .inl h
        · exact .inr (List.mem_cons_of_mem _ h)
      · rcases List.mem_cons.1 h with h | h
        · exact .inr (by simp [h])
        · exact (ih h).imp id (List.mem_cons_of_mem _)

/-- The canonical form, one entry at a time. -/
theorem Memory.wf_cons (b : Nat) (w : α) (m : Memory α) :
    Memory.wf ((b, w) :: m) = true ↔ (∀ p ∈ m, b < p.1) ∧ m.wf = true := by
  induction m generalizing b w with
  | nil => simp
  | cons q m ih =>
    obtain ⟨c, u⟩ := q
    simp only [Memory.wf, Bool.and_eq_true, decide_eq_true_eq, ih c u, List.forall_mem_cons]
    constructor
    · rintro ⟨h, h1, h2⟩; exact ⟨⟨h, fun p hp => Nat.lt_trans h (h1 p hp)⟩, h1, h2⟩
    · rintro ⟨⟨h, -⟩, h1, h2⟩; exact ⟨h, h1, h2⟩

/-- A write keeps the canonical form. -/
theorem Memory.wf_write (m : Memory α) (a : Nat) (v : α) (h : m.wf = true) : (m.write a v).wf = true := by
  induction m with
  | nil => rfl
  | cons q m ih =>
    obtain ⟨b, w⟩ := q
    have hc := (Memory.wf_cons b w m).1 h
    simp only [Memory.write]
    split
    · exact (Memory.wf_cons _ _ _).2 ⟨by
        intro p hp
        rcases List.mem_cons.1 hp with rfl | hp
        · assumption
        · exact Nat.lt_trans ‹_› (hc.1 p hp), h⟩
    · split
      · subst b; exact (Memory.wf_cons _ _ _).2 hc
      · refine (Memory.wf_cons _ _ _).2 ⟨fun p hp => ?_, ih hc.2⟩
        rcases Memory.mem_write m a v p hp with rfl | hp
        · simp only; omega
        · exact hc.1 p hp

/-- Consecutive writes keep the canonical form. -/
theorem Memory.wf_writeAll (m : Memory α) (a : Nat) (vs : List α) (h : m.wf = true) : (m.writeAll a vs).wf = true := by
  induction vs generalizing m a with
  | nil => exact h
  | cons v vs ih => exact ih _ _ (Memory.wf_write m a v h)

/-- What is read after consecutive writes. -/
theorem Memory.read_writeAll (m : Memory α) (a : Nat) (vs : List α) (b : Nat) :
    (m.writeAll a vs).read b = if a ≤ b ∧ b < a + vs.length then vs[b - a]? else m.read b := by
  induction vs generalizing m a with
  | nil => simp
  | cons v vs ih =>
    rw [Memory.writeAll_cons, ih, Memory.read_write]
    simp only [List.length_cons]
    by_cases h : b = a
    · subst h; simp
    · by_cases h' : a + 1 ≤ b ∧ b < a + 1 + vs.length
      · rw [if_pos h', if_pos (by omega), show b - a = (b - (a + 1)) + 1 by omega, List.getElem?_cons_succ]
      · rw [if_neg h', if_neg h, if_neg (by omega)]

/-- The entries after consecutive writes. -/
theorem Memory.mem_writeAll (m : Memory α) (a : Nat) (vs : List α) (p : Nat × α) (h : p ∈ m.writeAll a vs) :
    (a ≤ p.1 ∧ p.1 < a + vs.length) ∨ p ∈ m := by
  induction vs generalizing m a with
  | nil => exact .inr h
  | cons v vs ih =>
    rcases ih _ _ h with h | h
    · simp only [List.length_cons]; omega
    · rcases Memory.mem_write m a v p h with rfl | h
      · simp
      · exact .inr h

/-- Drawing words freely keeps the canonical form. -/
theorem Memory.wf_scramble (m : Memory Word) (o k cap n : Nat) (h : m.wf = true) :
    (m.scramble o k cap n).wf = true := by
  induction n with
  | zero => exact h
  | succ n ih =>
    simp only [Memory.scramble]
    split
    · exact Memory.wf_write _ _ _ ih
    · exact ih

/-- Drawing words freely leaves every word outside the range alone (R229, R253). -/
theorem Memory.read_scramble_other (m : Memory Word) (o k cap n a : Nat) (h : ¬ (o ≤ a ∧ a < o + n)) :
    (m.scramble o k cap n).read a = m.read a := by
  induction n with
  | zero => rfl
  | succ n ih =>
    simp only [Memory.scramble]
    split
    · rw [Memory.read_write_other _ _ _ _ (by omega), ih (by omega)]
    · exact ih (by omega)

/-- Drawing words freely adds none outside the buffer. -/
theorem Memory.mem_scramble (m : Memory Word) (o k cap n : Nat) (p : Nat × Word) (h : p ∈ m.scramble o k cap n) :
    p.1 < cap ∨ p ∈ m := by
  induction n with
  | zero => exact .inr h
  | succ n ih =>
    simp only [Memory.scramble] at h
    split at h
    · rcases Memory.mem_write _ _ _ _ h with rfl | h
      · exact .inl ‹_›
      · exact ih h
    · exact ih h

/-- The memory at reset is in canonical form. -/
theorem State.reset_wf : State.reset.ibuf.wf = true ∧ State.reset.obuf.wf = true := ⟨rfl, rfl⟩

end Sys2Proof.Machine
end

