-- ==== Sys2Proof/Laws/State.lean ====
section
/-! SUPPORT. One lemma for each field of State under each update of State, so that no later proof unfolds a record
update. -/

namespace Sys2Proof.Machine

variable (s : State)

/-! `State.flagsOnAccept` -/

@[simp] theorem State.flagsOnAccept_params : s.flagsOnAccept.params = s.params := rfl
@[simp] theorem State.flagsOnAccept_ie : s.flagsOnAccept.ie = s.ie := rfl
@[simp] theorem State.flagsOnAccept_done : s.flagsOnAccept.done = false := rfl
@[simp] theorem State.flagsOnAccept_err : s.flagsOnAccept.err = false := rfl
@[simp] theorem State.flagsOnAccept_ovr : s.flagsOnAccept.ovr = s.ovr := rfl
@[simp] theorem State.flagsOnAccept_errCode : s.flagsOnAccept.errCode = 0 := rfl
@[simp] theorem State.flagsOnAccept_cur : s.flagsOnAccept.cur = s.cur := rfl
@[simp] theorem State.flagsOnAccept_inLen : s.flagsOnAccept.inLen = s.inLen := rfl
@[simp] theorem State.flagsOnAccept_count : s.flagsOnAccept.count = s.count := rfl
@[simp] theorem State.flagsOnAccept_outIdx : s.flagsOnAccept.outIdx = s.outIdx := rfl
@[simp] theorem State.flagsOnAccept_prev : s.flagsOnAccept.prev = s.prev := rfl
@[simp] theorem State.flagsOnAccept_bw : s.flagsOnAccept.bw = s.bw := rfl
@[simp] theorem State.flagsOnAccept_resultLo : s.flagsOnAccept.resultLo = s.resultLo := rfl
@[simp] theorem State.flagsOnAccept_resultHi : s.flagsOnAccept.resultHi = s.resultHi := rfl
@[simp] theorem State.flagsOnAccept_errOff : s.flagsOnAccept.errOff = s.errOff := rfl
@[simp] theorem State.flagsOnAccept_consumed : s.flagsOnAccept.consumed = s.consumed := rfl
@[simp] theorem State.flagsOnAccept_ibuf : s.flagsOnAccept.ibuf = s.ibuf := rfl
@[simp] theorem State.flagsOnAccept_obuf : s.flagsOnAccept.obuf = s.obuf := rfl
@[simp] theorem State.flagsOnAccept_engine : s.flagsOnAccept.engine = s.engine := rfl
@[simp] theorem State.flagsOnAccept_draws : s.flagsOnAccept.draws = s.draws := rfl
@[simp] theorem State.flagsOnAccept_hostQ : s.flagsOnAccept.hostQ = s.hostQ := rfl
@[simp] theorem State.flagsOnAccept_readData : s.flagsOnAccept.readData = s.readData := rfl

/-! `State.flagsOnSuccess` -/

@[simp] theorem State.flagsOnSuccess_params : s.flagsOnSuccess.params = s.params := rfl
@[simp] theorem State.flagsOnSuccess_ie : s.flagsOnSuccess.ie = s.ie := rfl
@[simp] theorem State.flagsOnSuccess_done : s.flagsOnSuccess.done = true := rfl
@[simp] theorem State.flagsOnSuccess_err : s.flagsOnSuccess.err = s.err := rfl
@[simp] theorem State.flagsOnSuccess_ovr : s.flagsOnSuccess.ovr = s.ovr := rfl
@[simp] theorem State.flagsOnSuccess_errCode : s.flagsOnSuccess.errCode = s.errCode := rfl
@[simp] theorem State.flagsOnSuccess_cur : s.flagsOnSuccess.cur = s.cur := rfl
@[simp] theorem State.flagsOnSuccess_inLen : s.flagsOnSuccess.inLen = s.inLen := rfl
@[simp] theorem State.flagsOnSuccess_count : s.flagsOnSuccess.count = s.count := rfl
@[simp] theorem State.flagsOnSuccess_outIdx : s.flagsOnSuccess.outIdx = s.outIdx := rfl
@[simp] theorem State.flagsOnSuccess_prev : s.flagsOnSuccess.prev = s.prev := rfl
@[simp] theorem State.flagsOnSuccess_bw : s.flagsOnSuccess.bw = s.bw := rfl
@[simp] theorem State.flagsOnSuccess_resultLo : s.flagsOnSuccess.resultLo = s.resultLo := rfl
@[simp] theorem State.flagsOnSuccess_resultHi : s.flagsOnSuccess.resultHi = s.resultHi := rfl
@[simp] theorem State.flagsOnSuccess_errOff : s.flagsOnSuccess.errOff = s.errOff := rfl
@[simp] theorem State.flagsOnSuccess_consumed : s.flagsOnSuccess.consumed = s.consumed := rfl
@[simp] theorem State.flagsOnSuccess_ibuf : s.flagsOnSuccess.ibuf = s.ibuf := rfl
@[simp] theorem State.flagsOnSuccess_obuf : s.flagsOnSuccess.obuf = s.obuf := rfl
@[simp] theorem State.flagsOnSuccess_engine : s.flagsOnSuccess.engine = s.engine := rfl
@[simp] theorem State.flagsOnSuccess_draws : s.flagsOnSuccess.draws = s.draws := rfl
@[simp] theorem State.flagsOnSuccess_hostQ : s.flagsOnSuccess.hostQ = s.hostQ := rfl
@[simp] theorem State.flagsOnSuccess_readData : s.flagsOnSuccess.readData = s.readData := rfl

/-! `State.flagsOnFault` -/

@[simp] theorem State.flagsOnFault_params (code : FaultCode) : (s.flagsOnFault code).params = s.params := rfl
@[simp] theorem State.flagsOnFault_ie (code : FaultCode) : (s.flagsOnFault code).ie = s.ie := rfl
@[simp] theorem State.flagsOnFault_done (code : FaultCode) : (s.flagsOnFault code).done = true := rfl
@[simp] theorem State.flagsOnFault_err (code : FaultCode) : (s.flagsOnFault code).err = true := rfl
@[simp] theorem State.flagsOnFault_ovr (code : FaultCode) : (s.flagsOnFault code).ovr = s.ovr := rfl
@[simp] theorem State.flagsOnFault_errCode (code : FaultCode) : (s.flagsOnFault code).errCode = code.code := rfl
@[simp] theorem State.flagsOnFault_cur (code : FaultCode) : (s.flagsOnFault code).cur = s.cur := rfl
@[simp] theorem State.flagsOnFault_inLen (code : FaultCode) : (s.flagsOnFault code).inLen = s.inLen := rfl
@[simp] theorem State.flagsOnFault_count (code : FaultCode) : (s.flagsOnFault code).count = s.count := rfl
@[simp] theorem State.flagsOnFault_outIdx (code : FaultCode) : (s.flagsOnFault code).outIdx = s.outIdx := rfl
@[simp] theorem State.flagsOnFault_prev (code : FaultCode) : (s.flagsOnFault code).prev = s.prev := rfl
@[simp] theorem State.flagsOnFault_bw (code : FaultCode) : (s.flagsOnFault code).bw = s.bw := rfl
@[simp] theorem State.flagsOnFault_resultLo (code : FaultCode) : (s.flagsOnFault code).resultLo = s.resultLo := rfl
@[simp] theorem State.flagsOnFault_resultHi (code : FaultCode) : (s.flagsOnFault code).resultHi = s.resultHi := rfl
@[simp] theorem State.flagsOnFault_errOff (code : FaultCode) : (s.flagsOnFault code).errOff = s.errOff := rfl
@[simp] theorem State.flagsOnFault_consumed (code : FaultCode) : (s.flagsOnFault code).consumed = s.consumed := rfl
@[simp] theorem State.flagsOnFault_ibuf (code : FaultCode) : (s.flagsOnFault code).ibuf = s.ibuf := rfl
@[simp] theorem State.flagsOnFault_obuf (code : FaultCode) : (s.flagsOnFault code).obuf = s.obuf := rfl
@[simp] theorem State.flagsOnFault_engine (code : FaultCode) : (s.flagsOnFault code).engine = s.engine := rfl
@[simp] theorem State.flagsOnFault_draws (code : FaultCode) : (s.flagsOnFault code).draws = s.draws := rfl
@[simp] theorem State.flagsOnFault_hostQ (code : FaultCode) : (s.flagsOnFault code).hostQ = s.hostQ := rfl
@[simp] theorem State.flagsOnFault_readData (code : FaultCode) : (s.flagsOnFault code).readData = s.readData := rfl

/-! `State.clearStatus` -/

@[simp] theorem State.clearStatus_params (v : Word) : (s.clearStatus v).params = s.params := rfl
@[simp] theorem State.clearStatus_ie (v : Word) : (s.clearStatus v).ie = s.ie := rfl
@[simp] theorem State.clearStatus_done (v : Word) : (s.clearStatus v).done = (s.done && !v.getLsbD 1) := rfl
@[simp] theorem State.clearStatus_err (v : Word) : (s.clearStatus v).err = (s.err && !v.getLsbD 2) := rfl
@[simp] theorem State.clearStatus_ovr (v : Word) : (s.clearStatus v).ovr = (s.ovr && !v.getLsbD 3) := rfl
@[simp] theorem State.clearStatus_errCode (v : Word) : (s.clearStatus v).errCode = (if v.getLsbD 2 then 0 else s.errCode) := rfl
@[simp] theorem State.clearStatus_cur (v : Word) : (s.clearStatus v).cur = s.cur := rfl
@[simp] theorem State.clearStatus_inLen (v : Word) : (s.clearStatus v).inLen = s.inLen := rfl
@[simp] theorem State.clearStatus_count (v : Word) : (s.clearStatus v).count = s.count := rfl
@[simp] theorem State.clearStatus_outIdx (v : Word) : (s.clearStatus v).outIdx = s.outIdx := rfl
@[simp] theorem State.clearStatus_prev (v : Word) : (s.clearStatus v).prev = s.prev := rfl
@[simp] theorem State.clearStatus_bw (v : Word) : (s.clearStatus v).bw = s.bw := rfl
@[simp] theorem State.clearStatus_resultLo (v : Word) : (s.clearStatus v).resultLo = s.resultLo := rfl
@[simp] theorem State.clearStatus_resultHi (v : Word) : (s.clearStatus v).resultHi = s.resultHi := rfl
@[simp] theorem State.clearStatus_errOff (v : Word) : (s.clearStatus v).errOff = s.errOff := rfl
@[simp] theorem State.clearStatus_consumed (v : Word) : (s.clearStatus v).consumed = s.consumed := rfl
@[simp] theorem State.clearStatus_ibuf (v : Word) : (s.clearStatus v).ibuf = s.ibuf := rfl
@[simp] theorem State.clearStatus_obuf (v : Word) : (s.clearStatus v).obuf = s.obuf := rfl
@[simp] theorem State.clearStatus_engine (v : Word) : (s.clearStatus v).engine = s.engine := rfl
@[simp] theorem State.clearStatus_draws (v : Word) : (s.clearStatus v).draws = s.draws := rfl
@[simp] theorem State.clearStatus_hostQ (v : Word) : (s.clearStatus v).hostQ = s.hostQ := rfl
@[simp] theorem State.clearStatus_readData (v : Word) : (s.clearStatus v).readData = s.readData := rfl

/-! `State.scramble` -/

@[simp] theorem State.scramble_params (n : Nat) : (s.scramble n).params = s.params := rfl
@[simp] theorem State.scramble_ie (n : Nat) : (s.scramble n).ie = s.ie := rfl
@[simp] theorem State.scramble_done (n : Nat) : (s.scramble n).done = s.done := rfl
@[simp] theorem State.scramble_err (n : Nat) : (s.scramble n).err = s.err := rfl
@[simp] theorem State.scramble_ovr (n : Nat) : (s.scramble n).ovr = s.ovr := rfl
@[simp] theorem State.scramble_errCode (n : Nat) : (s.scramble n).errCode = s.errCode := rfl
@[simp] theorem State.scramble_cur (n : Nat) : (s.scramble n).cur = s.cur := rfl
@[simp] theorem State.scramble_inLen (n : Nat) : (s.scramble n).inLen = s.inLen := rfl
@[simp] theorem State.scramble_count (n : Nat) : (s.scramble n).count = s.count := rfl
@[simp] theorem State.scramble_outIdx (n : Nat) : (s.scramble n).outIdx = s.outIdx := rfl
@[simp] theorem State.scramble_prev (n : Nat) : (s.scramble n).prev = s.prev := rfl
@[simp] theorem State.scramble_bw (n : Nat) : (s.scramble n).bw = s.bw := rfl
@[simp] theorem State.scramble_resultLo (n : Nat) : (s.scramble n).resultLo = s.resultLo := rfl
@[simp] theorem State.scramble_resultHi (n : Nat) : (s.scramble n).resultHi = s.resultHi := rfl
@[simp] theorem State.scramble_errOff (n : Nat) : (s.scramble n).errOff = s.errOff := rfl
@[simp] theorem State.scramble_consumed (n : Nat) : (s.scramble n).consumed = s.consumed := rfl
@[simp] theorem State.scramble_ibuf (n : Nat) : (s.scramble n).ibuf = s.ibuf := rfl
@[simp] theorem State.scramble_obuf (n : Nat) : (s.scramble n).obuf = s.obuf.scramble s.outIdx.toNat s.draws s.params.outCap n := rfl
@[simp] theorem State.scramble_engine (n : Nat) : (s.scramble n).engine = s.engine := rfl
@[simp] theorem State.scramble_draws (n : Nat) : (s.scramble n).draws = s.draws + n := rfl
@[simp] theorem State.scramble_hostQ (n : Nat) : (s.scramble n).hostQ = s.hostQ := rfl
@[simp] theorem State.scramble_readData (n : Nat) : (s.scramble n).readData = s.readData := rfl

/-! `State.faultEntry` -/

@[simp] theorem State.faultEntry_params (code : FaultCode) (off n : Nat) : (s.faultEntry code off n).params = s.params := rfl
@[simp] theorem State.faultEntry_ie (code : FaultCode) (off n : Nat) : (s.faultEntry code off n).ie = s.ie := rfl
@[simp] theorem State.faultEntry_done (code : FaultCode) (off n : Nat) : (s.faultEntry code off n).done = true := rfl
@[simp] theorem State.faultEntry_err (code : FaultCode) (off n : Nat) : (s.faultEntry code off n).err = true := rfl
@[simp] theorem State.faultEntry_ovr (code : FaultCode) (off n : Nat) : (s.faultEntry code off n).ovr = s.ovr := rfl
@[simp] theorem State.faultEntry_errCode (code : FaultCode) (off n : Nat) : (s.faultEntry code off n).errCode = code.code := rfl
@[simp] theorem State.faultEntry_cur (code : FaultCode) (off n : Nat) : (s.faultEntry code off n).cur = s.cur := rfl
@[simp] theorem State.faultEntry_inLen (code : FaultCode) (off n : Nat) : (s.faultEntry code off n).inLen = s.inLen := rfl
@[simp] theorem State.faultEntry_count (code : FaultCode) (off n : Nat) : (s.faultEntry code off n).count = s.count := rfl
@[simp] theorem State.faultEntry_outIdx (code : FaultCode) (off n : Nat) : (s.faultEntry code off n).outIdx = s.outIdx := rfl
@[simp] theorem State.faultEntry_prev (code : FaultCode) (off n : Nat) : (s.faultEntry code off n).prev = s.prev := rfl
@[simp] theorem State.faultEntry_bw (code : FaultCode) (off n : Nat) : (s.faultEntry code off n).bw = s.bw := rfl
@[simp] theorem State.faultEntry_resultLo (code : FaultCode) (off n : Nat) : (s.faultEntry code off n).resultLo = s.resultLo := rfl
@[simp] theorem State.faultEntry_resultHi (code : FaultCode) (off n : Nat) : (s.faultEntry code off n).resultHi = s.resultHi := rfl
@[simp] theorem State.faultEntry_errOff (code : FaultCode) (off n : Nat) : (s.faultEntry code off n).errOff = BitVec.ofNat 32 off := rfl
@[simp] theorem State.faultEntry_consumed (code : FaultCode) (off n : Nat) : (s.faultEntry code off n).consumed = s.consumed := rfl
@[simp] theorem State.faultEntry_ibuf (code : FaultCode) (off n : Nat) : (s.faultEntry code off n).ibuf = s.ibuf := rfl
@[simp] theorem State.faultEntry_obuf (code : FaultCode) (off n : Nat) : (s.faultEntry code off n).obuf = s.obuf.scramble s.outIdx.toNat s.draws s.params.outCap (if code.keepsObuf then 0 else n) := rfl
@[simp] theorem State.faultEntry_engine (code : FaultCode) (off n : Nat) : (s.faultEntry code off n).engine = .idle := rfl
@[simp] theorem State.faultEntry_draws (code : FaultCode) (off n : Nat) : (s.faultEntry code off n).draws = s.draws + (if code.keepsObuf then 0 else n) := rfl
@[simp] theorem State.faultEntry_hostQ (code : FaultCode) (off n : Nat) : (s.faultEntry code off n).hostQ = s.hostQ := rfl
@[simp] theorem State.faultEntry_readData (code : FaultCode) (off n : Nat) : (s.faultEntry code off n).readData = s.readData := rfl

/-! `State.faulted` -/

@[simp] theorem State.faulted_params (code : FaultCode) (off : Word) : (s.faulted code off).params = s.params := rfl
@[simp] theorem State.faulted_ie (code : FaultCode) (off : Word) : (s.faulted code off).ie = s.ie := rfl
@[simp] theorem State.faulted_done (code : FaultCode) (off : Word) : (s.faulted code off).done = true := rfl
@[simp] theorem State.faulted_err (code : FaultCode) (off : Word) : (s.faulted code off).err = true := rfl
@[simp] theorem State.faulted_ovr (code : FaultCode) (off : Word) : (s.faulted code off).ovr = s.ovr := rfl
@[simp] theorem State.faulted_errCode (code : FaultCode) (off : Word) : (s.faulted code off).errCode = code.code := rfl
@[simp] theorem State.faulted_cur (code : FaultCode) (off : Word) : (s.faulted code off).cur = s.cur := rfl
@[simp] theorem State.faulted_inLen (code : FaultCode) (off : Word) : (s.faulted code off).inLen = s.inLen := rfl
@[simp] theorem State.faulted_count (code : FaultCode) (off : Word) : (s.faulted code off).count = s.count := rfl
@[simp] theorem State.faulted_outIdx (code : FaultCode) (off : Word) : (s.faulted code off).outIdx = s.outIdx := rfl
@[simp] theorem State.faulted_prev (code : FaultCode) (off : Word) : (s.faulted code off).prev = s.prev := rfl
@[simp] theorem State.faulted_bw (code : FaultCode) (off : Word) : (s.faulted code off).bw = s.bw := rfl
@[simp] theorem State.faulted_resultLo (code : FaultCode) (off : Word) : (s.faulted code off).resultLo = s.resultLo := rfl
@[simp] theorem State.faulted_resultHi (code : FaultCode) (off : Word) : (s.faulted code off).resultHi = s.resultHi := rfl
@[simp] theorem State.faulted_errOff (code : FaultCode) (off : Word) : (s.faulted code off).errOff = off := rfl
@[simp] theorem State.faulted_consumed (code : FaultCode) (off : Word) : (s.faulted code off).consumed = s.consumed := rfl
@[simp] theorem State.faulted_ibuf (code : FaultCode) (off : Word) : (s.faulted code off).ibuf = s.ibuf := rfl
@[simp] theorem State.faulted_obuf (code : FaultCode) (off : Word) : (s.faulted code off).obuf = s.obuf := rfl
@[simp] theorem State.faulted_engine (code : FaultCode) (off : Word) : (s.faulted code off).engine = .idle := rfl
@[simp] theorem State.faulted_draws (code : FaultCode) (off : Word) : (s.faulted code off).draws = s.draws := rfl
@[simp] theorem State.faulted_hostQ (code : FaultCode) (off : Word) : (s.faulted code off).hostQ = s.hostQ := rfl
@[simp] theorem State.faulted_readData (code : FaultCode) (off : Word) : (s.faulted code off).readData = s.readData := rfl

/-! `State.complete` -/

@[simp] theorem State.complete_params : s.complete.params = s.params := rfl
@[simp] theorem State.complete_ie : s.complete.ie = s.ie := rfl
@[simp] theorem State.complete_done : s.complete.done = true := rfl
@[simp] theorem State.complete_err : s.complete.err = s.err := rfl
@[simp] theorem State.complete_ovr : s.complete.ovr = s.ovr := rfl
@[simp] theorem State.complete_errCode : s.complete.errCode = s.errCode := rfl
@[simp] theorem State.complete_cur : s.complete.cur = s.cur := rfl
@[simp] theorem State.complete_inLen : s.complete.inLen = s.inLen := rfl
@[simp] theorem State.complete_count : s.complete.count = s.count := rfl
@[simp] theorem State.complete_outIdx : s.complete.outIdx = s.outIdx := rfl
@[simp] theorem State.complete_prev : s.complete.prev = s.prev := rfl
@[simp] theorem State.complete_bw : s.complete.bw = s.bw := rfl
@[simp] theorem State.complete_resultLo : s.complete.resultLo = s.resultLo := rfl
@[simp] theorem State.complete_resultHi : s.complete.resultHi = s.resultHi := rfl
@[simp] theorem State.complete_errOff : s.complete.errOff = s.errOff := rfl
@[simp] theorem State.complete_consumed : s.complete.consumed = s.consumed := rfl
@[simp] theorem State.complete_ibuf : s.complete.ibuf = s.ibuf := rfl
@[simp] theorem State.complete_obuf : s.complete.obuf = s.obuf := rfl
@[simp] theorem State.complete_engine : s.complete.engine = .idle := rfl
@[simp] theorem State.complete_draws : s.complete.draws = s.draws := rfl
@[simp] theorem State.complete_hostQ : s.complete.hostQ = s.hostQ := rfl
@[simp] theorem State.complete_readData : s.complete.readData = s.readData := rfl

/-! `State.writeOut` -/

@[simp] theorem State.writeOut_params (vs : List Word) : (s.writeOut vs).params = s.params := rfl
@[simp] theorem State.writeOut_ie (vs : List Word) : (s.writeOut vs).ie = s.ie := rfl
@[simp] theorem State.writeOut_done (vs : List Word) : (s.writeOut vs).done = s.done := rfl
@[simp] theorem State.writeOut_err (vs : List Word) : (s.writeOut vs).err = s.err := rfl
@[simp] theorem State.writeOut_ovr (vs : List Word) : (s.writeOut vs).ovr = s.ovr := rfl
@[simp] theorem State.writeOut_errCode (vs : List Word) : (s.writeOut vs).errCode = s.errCode := rfl
@[simp] theorem State.writeOut_cur (vs : List Word) : (s.writeOut vs).cur = s.cur := rfl
@[simp] theorem State.writeOut_inLen (vs : List Word) : (s.writeOut vs).inLen = s.inLen := rfl
@[simp] theorem State.writeOut_count (vs : List Word) : (s.writeOut vs).count = s.count := rfl
@[simp] theorem State.writeOut_outIdx (vs : List Word) : (s.writeOut vs).outIdx = s.outIdx := rfl
@[simp] theorem State.writeOut_prev (vs : List Word) : (s.writeOut vs).prev = s.prev := rfl
@[simp] theorem State.writeOut_bw (vs : List Word) : (s.writeOut vs).bw = s.bw := rfl
@[simp] theorem State.writeOut_resultLo (vs : List Word) : (s.writeOut vs).resultLo = s.resultLo := rfl
@[simp] theorem State.writeOut_resultHi (vs : List Word) : (s.writeOut vs).resultHi = s.resultHi := rfl
@[simp] theorem State.writeOut_errOff (vs : List Word) : (s.writeOut vs).errOff = s.errOff := rfl
@[simp] theorem State.writeOut_consumed (vs : List Word) : (s.writeOut vs).consumed = s.consumed := rfl
@[simp] theorem State.writeOut_ibuf (vs : List Word) : (s.writeOut vs).ibuf = s.ibuf := rfl
@[simp] theorem State.writeOut_obuf (vs : List Word) : (s.writeOut vs).obuf = s.obuf.writeAll s.outIdx.toNat vs := rfl
@[simp] theorem State.writeOut_engine (vs : List Word) : (s.writeOut vs).engine = s.engine := rfl
@[simp] theorem State.writeOut_draws (vs : List Word) : (s.writeOut vs).draws = s.draws := rfl
@[simp] theorem State.writeOut_hostQ (vs : List Word) : (s.writeOut vs).hostQ = s.hostQ := rfl
@[simp] theorem State.writeOut_readData (vs : List Word) : (s.writeOut vs).readData = s.readData := rfl

/-! `State.commitScalar` -/

@[simp] theorem State.commitScalar_params (v : Word) (len : Nat) : (s.commitScalar v len).params = s.params := rfl
@[simp] theorem State.commitScalar_ie (v : Word) (len : Nat) : (s.commitScalar v len).ie = s.ie := rfl
@[simp] theorem State.commitScalar_done (v : Word) (len : Nat) : (s.commitScalar v len).done = s.done := rfl
@[simp] theorem State.commitScalar_err (v : Word) (len : Nat) : (s.commitScalar v len).err = s.err := rfl
@[simp] theorem State.commitScalar_ovr (v : Word) (len : Nat) : (s.commitScalar v len).ovr = s.ovr := rfl
@[simp] theorem State.commitScalar_errCode (v : Word) (len : Nat) : (s.commitScalar v len).errCode = s.errCode := rfl
@[simp] theorem State.commitScalar_cur (v : Word) (len : Nat) : (s.commitScalar v len).cur = BitVec.ofNat 32 (s.cur.toNat + len) := rfl
@[simp] theorem State.commitScalar_inLen (v : Word) (len : Nat) : (s.commitScalar v len).inLen = s.inLen := rfl
@[simp] theorem State.commitScalar_count (v : Word) (len : Nat) : (s.commitScalar v len).count = s.count := rfl
@[simp] theorem State.commitScalar_outIdx (v : Word) (len : Nat) : (s.commitScalar v len).outIdx = s.outIdx := rfl
@[simp] theorem State.commitScalar_prev (v : Word) (len : Nat) : (s.commitScalar v len).prev = s.prev := rfl
@[simp] theorem State.commitScalar_bw (v : Word) (len : Nat) : (s.commitScalar v len).bw = s.bw := rfl
@[simp] theorem State.commitScalar_resultLo (v : Word) (len : Nat) : (s.commitScalar v len).resultLo = v := rfl
@[simp] theorem State.commitScalar_resultHi (v : Word) (len : Nat) : (s.commitScalar v len).resultHi = 0 := rfl
@[simp] theorem State.commitScalar_errOff (v : Word) (len : Nat) : (s.commitScalar v len).errOff = s.errOff := rfl
@[simp] theorem State.commitScalar_consumed (v : Word) (len : Nat) : (s.commitScalar v len).consumed = BitVec.ofNat 32 len := rfl
@[simp] theorem State.commitScalar_ibuf (v : Word) (len : Nat) : (s.commitScalar v len).ibuf = s.ibuf := rfl
@[simp] theorem State.commitScalar_obuf (v : Word) (len : Nat) : (s.commitScalar v len).obuf = s.obuf := rfl
@[simp] theorem State.commitScalar_engine (v : Word) (len : Nat) : (s.commitScalar v len).engine = s.engine := rfl
@[simp] theorem State.commitScalar_draws (v : Word) (len : Nat) : (s.commitScalar v len).draws = s.draws := rfl
@[simp] theorem State.commitScalar_hostQ (v : Word) (len : Nat) : (s.commitScalar v len).hostQ = s.hostQ := rfl
@[simp] theorem State.commitScalar_readData (v : Word) (len : Nat) : (s.commitScalar v len).readData = s.readData := rfl

/-! `State.commitFields` -/

@[simp] theorem State.commitFields_params (g : List Word) (n size : Nat) : (s.commitFields g n size).params = s.params := rfl
@[simp] theorem State.commitFields_ie (g : List Word) (n size : Nat) : (s.commitFields g n size).ie = s.ie := rfl
@[simp] theorem State.commitFields_done (g : List Word) (n size : Nat) : (s.commitFields g n size).done = s.done := rfl
@[simp] theorem State.commitFields_err (g : List Word) (n size : Nat) : (s.commitFields g n size).err = s.err := rfl
@[simp] theorem State.commitFields_ovr (g : List Word) (n size : Nat) : (s.commitFields g n size).ovr = s.ovr := rfl
@[simp] theorem State.commitFields_errCode (g : List Word) (n size : Nat) : (s.commitFields g n size).errCode = s.errCode := rfl
@[simp] theorem State.commitFields_cur (g : List Word) (n size : Nat) : (s.commitFields g n size).cur = BitVec.ofNat 32 (s.cur.toNat + size) := rfl
@[simp] theorem State.commitFields_inLen (g : List Word) (n size : Nat) : (s.commitFields g n size).inLen = s.inLen := rfl
@[simp] theorem State.commitFields_count (g : List Word) (n size : Nat) : (s.commitFields g n size).count = s.count := rfl
@[simp] theorem State.commitFields_outIdx (g : List Word) (n size : Nat) : (s.commitFields g n size).outIdx = BitVec.ofNat 32 (s.outIdx.toNat + n) := rfl
@[simp] theorem State.commitFields_prev (g : List Word) (n size : Nat) : (s.commitFields g n size).prev = s.prev := rfl
@[simp] theorem State.commitFields_bw (g : List Word) (n size : Nat) : (s.commitFields g n size).bw = s.bw := rfl
@[simp] theorem State.commitFields_resultLo (g : List Word) (n size : Nat) : (s.commitFields g n size).resultLo = s.resultLo := rfl
@[simp] theorem State.commitFields_resultHi (g : List Word) (n size : Nat) : (s.commitFields g n size).resultHi = s.resultHi := rfl
@[simp] theorem State.commitFields_errOff (g : List Word) (n size : Nat) : (s.commitFields g n size).errOff = s.errOff := rfl
@[simp] theorem State.commitFields_consumed (g : List Word) (n size : Nat) : (s.commitFields g n size).consumed = BitVec.ofNat 32 size := rfl
@[simp] theorem State.commitFields_ibuf (g : List Word) (n size : Nat) : (s.commitFields g n size).ibuf = s.ibuf := rfl
@[simp] theorem State.commitFields_obuf (g : List Word) (n size : Nat) : (s.commitFields g n size).obuf = s.obuf.writeAll s.outIdx.toNat g := rfl
@[simp] theorem State.commitFields_engine (g : List Word) (n size : Nat) : (s.commitFields g n size).engine = s.engine := rfl
@[simp] theorem State.commitFields_draws (g : List Word) (n size : Nat) : (s.commitFields g n size).draws = s.draws := rfl
@[simp] theorem State.commitFields_hostQ (g : List Word) (n size : Nat) : (s.commitFields g n size).hostQ = s.hostQ := rfl
@[simp] theorem State.commitFields_readData (g : List Word) (n size : Nat) : (s.commitFields g n size).readData = s.readData := rfl

/-! `State.commitIds` -/

@[simp] theorem State.commitIds_params (out : List Word) (e : Nat) : (s.commitIds out e).params = s.params := rfl
@[simp] theorem State.commitIds_ie (out : List Word) (e : Nat) : (s.commitIds out e).ie = s.ie := rfl
@[simp] theorem State.commitIds_done (out : List Word) (e : Nat) : (s.commitIds out e).done = s.done := rfl
@[simp] theorem State.commitIds_err (out : List Word) (e : Nat) : (s.commitIds out e).err = s.err := rfl
@[simp] theorem State.commitIds_ovr (out : List Word) (e : Nat) : (s.commitIds out e).ovr = s.ovr := rfl
@[simp] theorem State.commitIds_errCode (out : List Word) (e : Nat) : (s.commitIds out e).errCode = s.errCode := rfl
@[simp] theorem State.commitIds_cur (out : List Word) (e : Nat) : (s.commitIds out e).cur = BitVec.ofNat 32 e := rfl
@[simp] theorem State.commitIds_inLen (out : List Word) (e : Nat) : (s.commitIds out e).inLen = s.inLen := rfl
@[simp] theorem State.commitIds_count (out : List Word) (e : Nat) : (s.commitIds out e).count = s.count := rfl
@[simp] theorem State.commitIds_outIdx (out : List Word) (e : Nat) : (s.commitIds out e).outIdx = BitVec.ofNat 32 (s.outIdx.toNat + s.count.toNat) := rfl
@[simp] theorem State.commitIds_prev (out : List Word) (e : Nat) : (s.commitIds out e).prev = out.getLastD s.prev := rfl
@[simp] theorem State.commitIds_bw (out : List Word) (e : Nat) : (s.commitIds out e).bw = s.bw := rfl
@[simp] theorem State.commitIds_resultLo (out : List Word) (e : Nat) : (s.commitIds out e).resultLo = s.resultLo := rfl
@[simp] theorem State.commitIds_resultHi (out : List Word) (e : Nat) : (s.commitIds out e).resultHi = s.resultHi := rfl
@[simp] theorem State.commitIds_errOff (out : List Word) (e : Nat) : (s.commitIds out e).errOff = s.errOff := rfl
@[simp] theorem State.commitIds_consumed (out : List Word) (e : Nat) : (s.commitIds out e).consumed = BitVec.ofNat 32 (e - s.cur.toNat) := rfl
@[simp] theorem State.commitIds_ibuf (out : List Word) (e : Nat) : (s.commitIds out e).ibuf = s.ibuf := rfl
@[simp] theorem State.commitIds_obuf (out : List Word) (e : Nat) : (s.commitIds out e).obuf = s.obuf.writeAll s.outIdx.toNat out := rfl
@[simp] theorem State.commitIds_engine (out : List Word) (e : Nat) : (s.commitIds out e).engine = s.engine := rfl
@[simp] theorem State.commitIds_draws (out : List Word) (e : Nat) : (s.commitIds out e).draws = s.draws := rfl
@[simp] theorem State.commitIds_hostQ (out : List Word) (e : Nat) : (s.commitIds out e).hostQ = s.hostQ := rfl
@[simp] theorem State.commitIds_readData (out : List Word) (e : Nat) : (s.commitIds out e).readData = s.readData := rfl

/-! `State.beginCommand` -/

@[simp] theorem State.beginCommand_params (w : Word) (left : Nat) (run : Option Run) : (s.beginCommand w left run).params = s.params := rfl
@[simp] theorem State.beginCommand_ie (w : Word) (left : Nat) (run : Option Run) : (s.beginCommand w left run).ie = s.ie := rfl
@[simp] theorem State.beginCommand_done (w : Word) (left : Nat) (run : Option Run) : (s.beginCommand w left run).done = false := rfl
@[simp] theorem State.beginCommand_err (w : Word) (left : Nat) (run : Option Run) : (s.beginCommand w left run).err = false := rfl
@[simp] theorem State.beginCommand_ovr (w : Word) (left : Nat) (run : Option Run) : (s.beginCommand w left run).ovr = s.ovr := rfl
@[simp] theorem State.beginCommand_errCode (w : Word) (left : Nat) (run : Option Run) : (s.beginCommand w left run).errCode = 0 := rfl
@[simp] theorem State.beginCommand_cur (w : Word) (left : Nat) (run : Option Run) : (s.beginCommand w left run).cur = s.cur := rfl
@[simp] theorem State.beginCommand_inLen (w : Word) (left : Nat) (run : Option Run) : (s.beginCommand w left run).inLen = s.inLen := rfl
@[simp] theorem State.beginCommand_count (w : Word) (left : Nat) (run : Option Run) : (s.beginCommand w left run).count = s.count := rfl
@[simp] theorem State.beginCommand_outIdx (w : Word) (left : Nat) (run : Option Run) : (s.beginCommand w left run).outIdx = s.outIdx := rfl
@[simp] theorem State.beginCommand_prev (w : Word) (left : Nat) (run : Option Run) : (s.beginCommand w left run).prev = s.prev := rfl
@[simp] theorem State.beginCommand_bw (w : Word) (left : Nat) (run : Option Run) : (s.beginCommand w left run).bw = s.bw := rfl
@[simp] theorem State.beginCommand_resultLo (w : Word) (left : Nat) (run : Option Run) : (s.beginCommand w left run).resultLo = s.resultLo := rfl
@[simp] theorem State.beginCommand_resultHi (w : Word) (left : Nat) (run : Option Run) : (s.beginCommand w left run).resultHi = s.resultHi := rfl
@[simp] theorem State.beginCommand_errOff (w : Word) (left : Nat) (run : Option Run) : (s.beginCommand w left run).errOff = s.errOff := rfl
@[simp] theorem State.beginCommand_consumed (w : Word) (left : Nat) (run : Option Run) : (s.beginCommand w left run).consumed = s.consumed := rfl
@[simp] theorem State.beginCommand_ibuf (w : Word) (left : Nat) (run : Option Run) : (s.beginCommand w left run).ibuf = s.ibuf := rfl
@[simp] theorem State.beginCommand_obuf (w : Word) (left : Nat) (run : Option Run) : (s.beginCommand w left run).obuf = s.obuf := rfl
@[simp] theorem State.beginCommand_engine (w : Word) (left : Nat) (run : Option Run) : (s.beginCommand w left run).engine = .busy w left run := rfl
@[simp] theorem State.beginCommand_draws (w : Word) (left : Nat) (run : Option Run) : (s.beginCommand w left run).draws = s.draws := rfl
@[simp] theorem State.beginCommand_hostQ (w : Word) (left : Nat) (run : Option Run) : (s.beginCommand w left run).hostQ = s.hostQ := rfl
@[simp] theorem State.beginCommand_readData (w : Word) (left : Nat) (run : Option Run) : (s.beginCommand w left run).readData = s.readData := rfl

/-! `State.accept` -/

@[simp] theorem State.accept_params (w : Word) : (s.accept w).params = s.params := rfl
@[simp] theorem State.accept_ie (w : Word) : (s.accept w).ie = s.ie := rfl
@[simp] theorem State.accept_done (w : Word) : (s.accept w).done = false := rfl
@[simp] theorem State.accept_err (w : Word) : (s.accept w).err = false := rfl
@[simp] theorem State.accept_ovr (w : Word) : (s.accept w).ovr = s.ovr := rfl
@[simp] theorem State.accept_errCode (w : Word) : (s.accept w).errCode = 0 := rfl
@[simp] theorem State.accept_cur (w : Word) : (s.accept w).cur = s.cur := rfl
@[simp] theorem State.accept_inLen (w : Word) : (s.accept w).inLen = s.inLen := rfl
@[simp] theorem State.accept_count (w : Word) : (s.accept w).count = s.count := rfl
@[simp] theorem State.accept_outIdx (w : Word) : (s.accept w).outIdx = s.outIdx := rfl
@[simp] theorem State.accept_prev (w : Word) : (s.accept w).prev = s.prev := rfl
@[simp] theorem State.accept_bw (w : Word) : (s.accept w).bw = s.bw := rfl
@[simp] theorem State.accept_resultLo (w : Word) : (s.accept w).resultLo = s.resultLo := rfl
@[simp] theorem State.accept_resultHi (w : Word) : (s.accept w).resultHi = s.resultHi := rfl
@[simp] theorem State.accept_errOff (w : Word) : (s.accept w).errOff = s.errOff := rfl
@[simp] theorem State.accept_consumed (w : Word) : (s.accept w).consumed = s.consumed := rfl
@[simp] theorem State.accept_ibuf (w : Word) : (s.accept w).ibuf = s.ibuf := rfl
@[simp] theorem State.accept_obuf (w : Word) : (s.accept w).obuf = s.obuf := rfl
@[simp] theorem State.accept_engine (w : Word) : (s.accept w).engine = .busy w (Config.latency s.draws) (if Config.itemwise s.draws then s.startRun w else none) := rfl
@[simp] theorem State.accept_draws (w : Word) : (s.accept w).draws = s.draws + 1 := rfl
@[simp] theorem State.accept_hostQ (w : Word) : (s.accept w).hostQ = s.hostQ := rfl
@[simp] theorem State.accept_readData (w : Word) : (s.accept w).readData = s.readData := rfl

/-! `State.softReset` -/

@[simp] theorem State.softReset_params : s.softReset.params = s.params := rfl
@[simp] theorem State.softReset_ie : s.softReset.ie = false := rfl
@[simp] theorem State.softReset_done : s.softReset.done = false := rfl
@[simp] theorem State.softReset_err : s.softReset.err = false := rfl
@[simp] theorem State.softReset_ovr : s.softReset.ovr = false := rfl
@[simp] theorem State.softReset_errCode : s.softReset.errCode = 0 := rfl
@[simp] theorem State.softReset_cur : s.softReset.cur = 0 := rfl
@[simp] theorem State.softReset_inLen : s.softReset.inLen = 0 := rfl
@[simp] theorem State.softReset_count : s.softReset.count = 0 := rfl
@[simp] theorem State.softReset_outIdx : s.softReset.outIdx = 0 := rfl
@[simp] theorem State.softReset_prev : s.softReset.prev = 0 := rfl
@[simp] theorem State.softReset_bw : s.softReset.bw = 0 := rfl
@[simp] theorem State.softReset_resultLo : s.softReset.resultLo = 0 := rfl
@[simp] theorem State.softReset_resultHi : s.softReset.resultHi = 0 := rfl
@[simp] theorem State.softReset_errOff : s.softReset.errOff = 0 := rfl
@[simp] theorem State.softReset_consumed : s.softReset.consumed = 0 := rfl
@[simp] theorem State.softReset_ibuf : s.softReset.ibuf = s.ibuf := rfl
@[simp] theorem State.softReset_obuf : s.softReset.obuf = s.obuf.scramble s.outIdx.toNat s.draws s.params.outCap s.runningWriteSet := rfl
@[simp] theorem State.softReset_engine : s.softReset.engine = .idle := rfl
@[simp] theorem State.softReset_draws : s.softReset.draws = s.draws + s.runningWriteSet := rfl
@[simp] theorem State.softReset_hostQ : s.softReset.hostQ = s.hostQ := rfl
@[simp] theorem State.softReset_readData : s.softReset.readData = s.readData := rfl

/-! `State.powerOn` -/

@[simp] theorem State.powerOn_params : s.powerOn.params = s.params := rfl
@[simp] theorem State.powerOn_ie : s.powerOn.ie = false := rfl
@[simp] theorem State.powerOn_done : s.powerOn.done = false := rfl
@[simp] theorem State.powerOn_err : s.powerOn.err = false := rfl
@[simp] theorem State.powerOn_ovr : s.powerOn.ovr = false := rfl
@[simp] theorem State.powerOn_errCode : s.powerOn.errCode = 0 := rfl
@[simp] theorem State.powerOn_cur : s.powerOn.cur = 0 := rfl
@[simp] theorem State.powerOn_inLen : s.powerOn.inLen = 0 := rfl
@[simp] theorem State.powerOn_count : s.powerOn.count = 0 := rfl
@[simp] theorem State.powerOn_outIdx : s.powerOn.outIdx = 0 := rfl
@[simp] theorem State.powerOn_prev : s.powerOn.prev = 0 := rfl
@[simp] theorem State.powerOn_bw : s.powerOn.bw = 0 := rfl
@[simp] theorem State.powerOn_resultLo : s.powerOn.resultLo = 0 := rfl
@[simp] theorem State.powerOn_resultHi : s.powerOn.resultHi = 0 := rfl
@[simp] theorem State.powerOn_errOff : s.powerOn.errOff = 0 := rfl
@[simp] theorem State.powerOn_consumed : s.powerOn.consumed = 0 := rfl
@[simp] theorem State.powerOn_ibuf : s.powerOn.ibuf = [] := rfl
@[simp] theorem State.powerOn_obuf : s.powerOn.obuf = [] := rfl
@[simp] theorem State.powerOn_engine : s.powerOn.engine = .idle := rfl
@[simp] theorem State.powerOn_draws : s.powerOn.draws = s.draws := rfl
@[simp] theorem State.powerOn_hostQ : s.powerOn.hostQ = s.hostQ := rfl
@[simp] theorem State.powerOn_readData : s.powerOn.readData = s.readData := rfl

/-! `State.answer` -/

@[simp] theorem State.answer_params (v : Word) : (s.answer v).params = s.params := rfl
@[simp] theorem State.answer_ie (v : Word) : (s.answer v).ie = s.ie := rfl
@[simp] theorem State.answer_done (v : Word) : (s.answer v).done = s.done := rfl
@[simp] theorem State.answer_err (v : Word) : (s.answer v).err = s.err := rfl
@[simp] theorem State.answer_ovr (v : Word) : (s.answer v).ovr = s.ovr := rfl
@[simp] theorem State.answer_errCode (v : Word) : (s.answer v).errCode = s.errCode := rfl
@[simp] theorem State.answer_cur (v : Word) : (s.answer v).cur = s.cur := rfl
@[simp] theorem State.answer_inLen (v : Word) : (s.answer v).inLen = s.inLen := rfl
@[simp] theorem State.answer_count (v : Word) : (s.answer v).count = s.count := rfl
@[simp] theorem State.answer_outIdx (v : Word) : (s.answer v).outIdx = s.outIdx := rfl
@[simp] theorem State.answer_prev (v : Word) : (s.answer v).prev = s.prev := rfl
@[simp] theorem State.answer_bw (v : Word) : (s.answer v).bw = s.bw := rfl
@[simp] theorem State.answer_resultLo (v : Word) : (s.answer v).resultLo = s.resultLo := rfl
@[simp] theorem State.answer_resultHi (v : Word) : (s.answer v).resultHi = s.resultHi := rfl
@[simp] theorem State.answer_errOff (v : Word) : (s.answer v).errOff = s.errOff := rfl
@[simp] theorem State.answer_consumed (v : Word) : (s.answer v).consumed = s.consumed := rfl
@[simp] theorem State.answer_ibuf (v : Word) : (s.answer v).ibuf = s.ibuf := rfl
@[simp] theorem State.answer_obuf (v : Word) : (s.answer v).obuf = s.obuf := rfl
@[simp] theorem State.answer_engine (v : Word) : (s.answer v).engine = s.engine := rfl
@[simp] theorem State.answer_draws (v : Word) : (s.answer v).draws = s.draws := rfl
@[simp] theorem State.answer_hostQ (v : Word) : (s.answer v).hostQ = s.hostQ := rfl
@[simp] theorem State.answer_readData (v : Word) : (s.answer v).readData = some v := rfl

/-! `State.answerFree` -/

@[simp] theorem State.answerFree_params : s.answerFree.params = s.params := rfl
@[simp] theorem State.answerFree_ie : s.answerFree.ie = s.ie := rfl
@[simp] theorem State.answerFree_done : s.answerFree.done = s.done := rfl
@[simp] theorem State.answerFree_err : s.answerFree.err = s.err := rfl
@[simp] theorem State.answerFree_ovr : s.answerFree.ovr = s.ovr := rfl
@[simp] theorem State.answerFree_errCode : s.answerFree.errCode = s.errCode := rfl
@[simp] theorem State.answerFree_cur : s.answerFree.cur = s.cur := rfl
@[simp] theorem State.answerFree_inLen : s.answerFree.inLen = s.inLen := rfl
@[simp] theorem State.answerFree_count : s.answerFree.count = s.count := rfl
@[simp] theorem State.answerFree_outIdx : s.answerFree.outIdx = s.outIdx := rfl
@[simp] theorem State.answerFree_prev : s.answerFree.prev = s.prev := rfl
@[simp] theorem State.answerFree_bw : s.answerFree.bw = s.bw := rfl
@[simp] theorem State.answerFree_resultLo : s.answerFree.resultLo = s.resultLo := rfl
@[simp] theorem State.answerFree_resultHi : s.answerFree.resultHi = s.resultHi := rfl
@[simp] theorem State.answerFree_errOff : s.answerFree.errOff = s.errOff := rfl
@[simp] theorem State.answerFree_consumed : s.answerFree.consumed = s.consumed := rfl
@[simp] theorem State.answerFree_ibuf : s.answerFree.ibuf = s.ibuf := rfl
@[simp] theorem State.answerFree_obuf : s.answerFree.obuf = s.obuf := rfl
@[simp] theorem State.answerFree_engine : s.answerFree.engine = s.engine := rfl
@[simp] theorem State.answerFree_draws : s.answerFree.draws = s.draws + 1 := rfl
@[simp] theorem State.answerFree_hostQ : s.answerFree.hostQ = s.hostQ := rfl
@[simp] theorem State.answerFree_readData : s.answerFree.readData = some (Config.freeWord s.draws) := rfl

/-! `State.overrun` -/

@[simp] theorem State.overrun_params : s.overrun.params = s.params := rfl
@[simp] theorem State.overrun_ie : s.overrun.ie = s.ie := rfl
@[simp] theorem State.overrun_done : s.overrun.done = s.done := rfl
@[simp] theorem State.overrun_err : s.overrun.err = s.err := rfl
@[simp] theorem State.overrun_ovr : s.overrun.ovr = true := rfl
@[simp] theorem State.overrun_errCode : s.overrun.errCode = s.errCode := rfl
@[simp] theorem State.overrun_cur : s.overrun.cur = s.cur := rfl
@[simp] theorem State.overrun_inLen : s.overrun.inLen = s.inLen := rfl
@[simp] theorem State.overrun_count : s.overrun.count = s.count := rfl
@[simp] theorem State.overrun_outIdx : s.overrun.outIdx = s.outIdx := rfl
@[simp] theorem State.overrun_prev : s.overrun.prev = s.prev := rfl
@[simp] theorem State.overrun_bw : s.overrun.bw = s.bw := rfl
@[simp] theorem State.overrun_resultLo : s.overrun.resultLo = s.resultLo := rfl
@[simp] theorem State.overrun_resultHi : s.overrun.resultHi = s.resultHi := rfl
@[simp] theorem State.overrun_errOff : s.overrun.errOff = s.errOff := rfl
@[simp] theorem State.overrun_consumed : s.overrun.consumed = s.consumed := rfl
@[simp] theorem State.overrun_ibuf : s.overrun.ibuf = s.ibuf := rfl
@[simp] theorem State.overrun_obuf : s.overrun.obuf = s.obuf := rfl
@[simp] theorem State.overrun_engine : s.overrun.engine = s.engine := rfl
@[simp] theorem State.overrun_draws : s.overrun.draws = s.draws := rfl
@[simp] theorem State.overrun_hostQ : s.overrun.hostQ = s.hostQ := rfl
@[simp] theorem State.overrun_readData : s.overrun.readData = s.readData := rfl

/-! `State.tick` -/

@[simp] theorem State.tick_params : s.tick.params = s.params := by unfold State.tick; split <;> rfl
@[simp] theorem State.tick_ie : s.tick.ie = s.ie := by unfold State.tick; split <;> rfl
@[simp] theorem State.tick_done : s.tick.done = s.done := by unfold State.tick; split <;> rfl
@[simp] theorem State.tick_err : s.tick.err = s.err := by unfold State.tick; split <;> rfl
@[simp] theorem State.tick_ovr : s.tick.ovr = s.ovr := by unfold State.tick; split <;> rfl
@[simp] theorem State.tick_errCode : s.tick.errCode = s.errCode := by unfold State.tick; split <;> rfl
@[simp] theorem State.tick_cur : s.tick.cur = s.cur := by unfold State.tick; split <;> rfl
@[simp] theorem State.tick_inLen : s.tick.inLen = s.inLen := by unfold State.tick; split <;> rfl
@[simp] theorem State.tick_count : s.tick.count = s.count := by unfold State.tick; split <;> rfl
@[simp] theorem State.tick_outIdx : s.tick.outIdx = s.outIdx := by unfold State.tick; split <;> rfl
@[simp] theorem State.tick_prev : s.tick.prev = s.prev := by unfold State.tick; split <;> rfl
@[simp] theorem State.tick_bw : s.tick.bw = s.bw := by unfold State.tick; split <;> rfl
@[simp] theorem State.tick_resultLo : s.tick.resultLo = s.resultLo := by unfold State.tick; split <;> rfl
@[simp] theorem State.tick_resultHi : s.tick.resultHi = s.resultHi := by unfold State.tick; split <;> rfl
@[simp] theorem State.tick_errOff : s.tick.errOff = s.errOff := by unfold State.tick; split <;> rfl
@[simp] theorem State.tick_consumed : s.tick.consumed = s.consumed := by unfold State.tick; split <;> rfl
@[simp] theorem State.tick_ibuf : s.tick.ibuf = s.ibuf := by unfold State.tick; split <;> rfl
@[simp] theorem State.tick_obuf : s.tick.obuf = s.obuf := by unfold State.tick; split <;> rfl
@[simp] theorem State.tick_draws : s.tick.draws = s.draws := by unfold State.tick; split <;> rfl
@[simp] theorem State.tick_hostQ : s.tick.hostQ = s.hostQ := by unfold State.tick; split <;> rfl
@[simp] theorem State.tick_readData : s.tick.readData = s.readData := by unfold State.tick; split <;> rfl

@[simp] theorem State.tick_idle (h : s.engine = .idle) : s.tick = s := by
  unfold State.tick; rw [h]

@[simp] theorem State.tick_busy (w : Word) (left : Nat) (run : Option Run) (h : s.engine = .busy w left run) :
    s.tick = { s with engine := .busy w (left - 1) run } := by
  unfold State.tick; rw [h]

/-! `State.reset` -/

@[simp] theorem State.reset_params : State.reset.params = Params.default := rfl
@[simp] theorem State.reset_ie : State.reset.ie = false := rfl
@[simp] theorem State.reset_done : State.reset.done = false := rfl
@[simp] theorem State.reset_err : State.reset.err = false := rfl
@[simp] theorem State.reset_ovr : State.reset.ovr = false := rfl
@[simp] theorem State.reset_errCode : State.reset.errCode = 0 := rfl
@[simp] theorem State.reset_cur : State.reset.cur = 0 := rfl
@[simp] theorem State.reset_inLen : State.reset.inLen = 0 := rfl
@[simp] theorem State.reset_count : State.reset.count = 0 := rfl
@[simp] theorem State.reset_outIdx : State.reset.outIdx = 0 := rfl
@[simp] theorem State.reset_prev : State.reset.prev = 0 := rfl
@[simp] theorem State.reset_bw : State.reset.bw = 0 := rfl
@[simp] theorem State.reset_resultLo : State.reset.resultLo = 0 := rfl
@[simp] theorem State.reset_resultHi : State.reset.resultHi = 0 := rfl
@[simp] theorem State.reset_errOff : State.reset.errOff = 0 := rfl
@[simp] theorem State.reset_consumed : State.reset.consumed = 0 := rfl
@[simp] theorem State.reset_ibuf : State.reset.ibuf = [] := rfl
@[simp] theorem State.reset_obuf : State.reset.obuf = [] := rfl
@[simp] theorem State.reset_engine : State.reset.engine = .idle := rfl
@[simp] theorem State.reset_draws : State.reset.draws = 0 := rfl
@[simp] theorem State.reset_hostQ : State.reset.hostQ = [] := rfl
@[simp] theorem State.reset_readData : State.reset.readData = none := rfl

end Sys2Proof.Machine
end

