-- ==== Sys2Proof/Laws/Ops.lean ====
section
/-! SUPPORT. What each shared operation of Ops, Operands, Scalar, Blocks and Sequence can do, said once: when it answers,
and with what. -/

namespace Sys2Proof.Machine

variable (s : State)

/-! ### Sequencing -/

@[simp] theorem Res.bind_ok {α β : Type} (a : α) (f : α → Res β) : (Except.ok a : Res α) >>= f = f a := rfl

@[simp] theorem Res.bind_error {α β : Type} (e : Stop) (f : α → Res β) :
    (Except.error e : Res α) >>= f = Except.error e := rfl

/-- A sequence answers exactly when its parts do. -/
theorem Res.bind_eq_ok {α β : Type} (x : Res α) (f : α → Res β) (b : β) :
    x >>= f = .ok b ↔ ∃ a, x = .ok a ∧ f a = .ok b := by
  cases x <;> simp

/-- A sequence stops where its first part does, or its second. -/
theorem Res.bind_eq_error {α β : Type} (x : Res α) (f : α → Res β) (e : Stop) :
    x >>= f = .error e ↔ x = .error e ∨ ∃ a, x = .ok a ∧ f a = .error e := by
  cases x <;> simp

@[simp] theorem raise_ne_ok {α : Type} (code : FaultCode) (off : Nat) (a : α) : (raise code off : Res α) ≠ .ok a := by
  simp [raise]

@[simp] theorem raise_eq_error {α : Type} (code : FaultCode) (off : Nat) (e : Stop) :
    (raise code off : Res α) = .error e ↔ e = .engine code off := by
  simp [raise, eq_comm]

/-! ### Checks -/

@[simp] theorem State.checkInLen_ok (u : Unit) : s.checkInLen = .ok u ↔ s.inLen.toNat ≤ s.params.inCap := by
  unfold State.checkInLen; split <;> simp <;> omega

@[simp] theorem State.checkInLen_error (e : Stop) :
    s.checkInLen = .error e ↔ s.params.inCap < s.inLen.toNat ∧ e = .engine .badParam s.cur.toNat := by
  unfold State.checkInLen; split <;> simp [*]

@[simp] theorem State.checkOut_ok (n : Nat) (u : Unit) :
    s.checkOut n = .ok u ↔ s.outIdx.toNat + n ≤ s.params.outCap := by
  unfold State.checkOut; split <;> simp <;> omega

@[simp] theorem State.checkOut_error (n : Nat) (e : Stop) :
    s.checkOut n = .error e ↔ s.params.outCap < s.outIdx.toNat + n ∧ e = .engine .outRange s.cur.toNat := by
  unfold State.checkOut; split <;> simp [*]

@[simp] theorem State.need_ok (a n : Nat) (u : Unit) : s.need a n = .ok u ↔ n = 0 ∨ a + n ≤ s.inLen.toNat := by
  unfold State.need; split <;> simp <;> omega

@[simp] theorem State.need_error (a n : Nat) (e : Stop) :
    s.need a n = .error e ↔ (n ≠ 0 ∧ s.inLen.toNat < a + n) ∧ e = .engine .truncated a := by
  unfold State.need; split <;> simp [*]

/-! ### Loads -/

@[simp] theorem State.byteAt_ok (a : Nat) (x : Byte) : s.byteAt a = .ok x ↔ s.ibuf.read a = some x := by
  unfold State.byteAt; split <;> simp [*]

@[simp] theorem State.byteAt_error (a : Nat) (e : Stop) :
    s.byteAt a = .error e ↔ s.ibuf.read a = none ∧ e = .model (.unwrittenByte a) := by
  unfold State.byteAt; split <;> simp [*, eq_comm]

/-- A region of bytes is read exactly when each of them is written. -/
theorem State.bytesAt_ok (a n : Nat) (xs : List Byte) :
    s.bytesAt a n = .ok xs ↔ xs.length = n ∧ ∀ k, k < n → s.ibuf.read (a + k) = xs[k]? := by
  induction n generalizing a xs with
  | zero => cases xs <;> simp [State.bytesAt]
  | succ n ih =>
    simp only [State.bytesAt, Res.bind_eq_ok, State.byteAt_ok, ih]
    constructor
    · rintro ⟨x, hx, ys, ⟨hl, hy⟩, h⟩
      cases h
      refine ⟨by simp [hl], fun k hk => ?_⟩
      cases k with
      | zero => simpa using hx
      | succ k => simpa [Nat.add_comm, Nat.add_left_comm, Nat.add_assoc] using hy k (by omega)
    · rintro ⟨hl, h⟩
      cases xs with
      | nil => simp at hl
      | cons x ys =>
        refine ⟨x, by simpa using h 0 (by omega), ys, ⟨by simpa using hl, fun k hk => ?_⟩, rfl⟩
        have := h (k + 1) (by omega)
        simpa [Nat.add_comm, Nat.add_left_comm, Nat.add_assoc] using this

/-- Reading bytes raises no engine fault. -/
theorem State.bytesAt_error (a n : Nat) (e : Stop) (h : s.bytesAt a n = .error e) :
    ∃ k, k < n ∧ s.ibuf.read (a + k) = none ∧ e = .model (.unwrittenByte (a + k)) := by
  induction n generalizing a with
  | zero => simp [State.bytesAt] at h
  | succ n ih =>
    simp only [State.bytesAt, Res.bind_eq_error, State.byteAt_error] at h
    rcases h with ⟨h, rfl⟩ | ⟨x, -, h⟩
    · exact ⟨0, by omega, by simpa using h, rfl⟩
    · rcases h with h | ⟨_, _, h⟩
      · obtain ⟨k, hk, hr, he⟩ := ih _ h
        exact ⟨k + 1, by omega, by rw [← hr]; congr 1; omega, by rw [he]; congr 2; omega⟩
      · simp at h

theorem State.region_ok (a n r : Nat) :
    s.region a n = .ok r ↔
      ∃ xs : List Byte, xs.length = n ∧ (∀ k, k < n → s.ibuf.read (a + k) = xs[k]?) ∧ leNat xs = r := by
  simp only [State.region, Res.bind_eq_ok, State.bytesAt_ok, Except.ok.injEq, and_assoc]

/-- A region held by IBUF is read as its number. -/
theorem State.region_of_holds (a : Nat) (xs : List Byte) (h : s.holds a xs) :
    s.region a xs.length = .ok (leNat xs) := (State.region_ok s a _ _).2 ⟨xs, rfl, h.2, rfl⟩

theorem State.memRead_ok (a n r : Nat) :
    s.memRead a n = .ok r ↔ (n = 0 ∨ a + n ≤ s.inLen.toNat) ∧ s.region a n = .ok r := by
  simp [State.memRead, Res.bind_eq_ok]

theorem State.gaps_ok (a n b : Nat) (il : Bool) (g : List Word) :
    s.gaps a n b il = .ok g ↔
      ∃ r, s.region a (packedSize s.params.bs n b il) = .ok r ∧ g = unpackFields s.params r n b il := by
  rw [State.gaps, Res.bind_eq_ok]
  exact ⟨fun ⟨r, h, e⟩ => ⟨r, h, (Except.ok.inj e).symm⟩, fun ⟨r, h, e⟩ => ⟨r, h, e ▸ rfl⟩⟩

/-- How many fields a region unpacks to. -/
@[simp] theorem unpackFields_length (p : Params) (r n b : Nat) (il : Bool) :
    (unpackFields p r n b il).length = if il then p.bs else n := by
  unfold unpackFields; split <;> simp

/-! ### Ending a command -/

/-- A command answers a next state exactly when its pseudocode ends without a stop of the model. -/
theorem State.finish_next (n : Nat) (r : Res State) (t : State) :
    s.finish n r = .next t ↔
      (∃ u, r = .ok u ∧ t = u.complete) ∨ ∃ code off, r = .error (.engine code off) ∧ t = s.faultEntry code off n := by
  rcases r with (⟨code, off⟩ | f) | u <;> simp [State.finish, eq_comm]

/-- A command is never refused. -/
theorem State.finish_not_refused (n : Nat) (r : Res State) (x : Refusal) : s.finish n r ≠ .refused x := by
  rcases r with (⟨code, off⟩ | f) | u <;> simp [State.finish]

/-- A fault before OBUF is touched leaves all of it (R229). -/
theorem State.faultEntry_keeps (code : FaultCode) (off n : Nat) (h : code.keepsObuf = true ∨ n = 0) :
    s.faultEntry code off n = s.faulted code (BitVec.ofNat 32 off) := by
  rcases h with h | h
  · simp [State.faultEntry, State.faulted, State.flagsOnFault, State.scramble, h]
  · subst h; cases hc : code.keepsObuf <;> simp [State.faultEntry, State.faulted, State.flagsOnFault, State.scramble, hc]

/-- A stream item answers a next state exactly when a command in flight awaits it and it raises no stop of the model. -/
theorem State.runItem_next (item : Run → Res Progress) (t : State) :
    s.runItem item = .next t ↔
      ∃ w left r, s.engine = .busy w left (some r) ∧
        ((∃ p, item r = .ok p ∧ t = s.advance w left p) ∨
          ∃ code off, item r = .error (.engine code off) ∧ t = s.faultEntry code off s.runningWriteSet) := by
  unfold State.runItem
  constructor
  · intro h
    split at h
    · rename_i w left r hw
      refine ⟨w, left, r, hw, ?_⟩
      split at h
      · rename_i p hp
        exact .inl ⟨p, hp, by simpa [eq_comm] using h⟩
      · rename_i code off hp
        exact .inr ⟨code, off, hp, by simpa [eq_comm] using h⟩
      · simp at h
    · simp at h
    · simp at h
  · rintro ⟨w, left, r, hw, ⟨p, hp, rfl⟩ | ⟨code, off, hp, rfl⟩⟩ <;> simp [hw, hp]

/-- With the awaited run at hand, an item is what its pseudocode says. -/
theorem State.runItem_busy (item : Run → Res Progress) (w : Word) (left : Nat) (r : Run)
    (h : s.engine = .busy w left (some r)) :
    s.runItem item =
      match item r with
      | .ok p => .next (s.advance w left p)
      | .error (.engine code off) => .next (s.faultEntry code off s.runningWriteSet)
      | .error (.model f) => .fault f := by
  cases hr : item r with
  | ok p => simp [State.runItem, h, hr]
  | error e => cases e <;> simp [State.runItem, h, hr]

@[simp] theorem State.advance_more (w : Word) (left : Nat) (r : Run) :
    s.advance w left (.more r) = { s with engine := .busy w left (some r) } := rfl

@[simp] theorem State.advance_finished (w : Word) (left : Nat) (t : State) :
    s.advance w left (.finished t) = t.complete := rfl

/-! ### The scan -/

@[simp] theorem scan_nil (prev : Word) : scan prev [] = [] := rfl

@[simp] theorem scan_cons (prev g : Word) (gs : List Word) :
    scan prev (g :: gs) = (prev + g + 1) :: scan (prev + g + 1) gs := rfl

@[simp] theorem scan_length (prev : Word) (g : List Word) : (scan prev g).length = g.length := by
  induction g generalizing prev with
  | nil => rfl
  | cons g gs ih => simp [ih]

/-- The scan of two runs of gaps: the second starts from the last identifier of the first (R214). -/
theorem scan_append (prev : Word) (g g' : List Word) :
    scan prev (g ++ g') = scan prev g ++ scan ((scan prev g).getLastD prev) g' := by
  induction g generalizing prev with
  | nil => rfl
  | cons x g ih => simp only [List.cons_append, scan_cons, ih, List.getLastD_cons]

/-! ### Exceptions -/

@[simp] theorem orAt_length (g : List Word) (i : Nat) (v : Word) : (orAt g i v).length = g.length := by
  induction g generalizing i with
  | nil => rfl
  | cons w ws ih => cases i <;> simp [orAt, ih]

/-- ORing at one position (R181). -/
theorem orAt_getElem? (g : List Word) (i k : Nat) (v : Word) :
    (orAt g i v)[k]? = if k = i then g[k]?.map (· ||| v) else g[k]? := by
  induction g generalizing i k with
  | nil => simp [orAt]
  | cons w ws ih =>
    cases i with
    | zero => cases k <;> simp [orAt]
    | succ i => cases k <;> simp [orAt, ih]

@[simp] theorem orAll_length (b : Nat) (g : List Word) (es : List (Nat × Word)) : (orAll b g es).length = g.length := by
  induction es generalizing g with
  | nil => rfl
  | cons e es ih => obtain ⟨i, h⟩ := e; simp [orAll, ih]

/-- The index loop keeps the number of gaps and reads one index byte for each exception (R178). -/
theorem State.patchFrom_length (num b : Nat) (g : List Word) (e : Nat) (xs g' : List Word) (e' : Nat)
    (h : s.patchFrom num b g e xs = .ok (g', e')) : g'.length = g.length ∧ e' = e + xs.length := by
  induction xs generalizing g e with
  | nil => simp [State.patchFrom] at h; simp [h]
  | cons x xs ih =>
    simp only [State.patchFrom, Res.bind_eq_ok] at h
    obtain ⟨idx, -, h⟩ := h
    split at h
    · simp at h
    · have := ih _ _ h
      simp only [orAt_length, List.length_cons] at this ⊢
      omega

/-- The escape values: as many as asked for, 4 bytes each (R180). -/
theorem State.escValues_length (e n : Nat) (xs : List Word) (e' : Nat) (h : s.escValues e n = .ok (xs, e')) :
    xs.length = n ∧ e' = e + 4 * n := by
  induction n generalizing e xs with
  | zero => simp [State.escValues] at h; simp [← h.1, h.2]
  | succ n ih =>
    simp only [State.escValues, Res.bind_eq_ok] at h
    obtain ⟨v, -, ⟨vs, e1⟩, h1, h2⟩ := h
    cases h2
    have := ih _ _ h1
    simp only [List.length_cons]
    omega

/-- The vb values: as many as asked for (R180). -/
theorem State.vbValues_length (e n : Nat) (xs : List Word) (e' : Nat) (h : s.vbValues e n = .ok (xs, e')) :
    xs.length = n := by
  induction n generalizing e xs with
  | zero => simp [State.vbValues] at h; simp [← h.1]
  | succ n ih =>
    simp only [State.vbValues, Res.bind_eq_ok] at h
    obtain ⟨⟨v, len⟩, -, ⟨vs, e1⟩, h1, h2⟩ := h
    cases h2
    simp [ih _ _ h1]

end Sys2Proof.Machine
end

