-- ==== Sys2Proof/Laws/PerInstr.lean ====
section
/-! SUPPORT. Families proved instruction by instruction. EncodingWidth: an encoding fits the width of its format (R100). -/

namespace Sys2Proof.Laws

/-- The encoding of an instruction fits the width of its format. -/
def EncodingWidth.Statement (i : Instr) : Prop := (encode i).toNat < 2 ^ i.format.bits

/-- A byte-wide word is below 2^8. -/
theorem byteWord_lt (x : Byte) : (byteWord x).toNat < 2 ^ 8 := by
  have h := x.isLt
  simp only [byteWord, BitVec.toNat_setWidth]
  omega

theorem EncodingWidth.ldle (il : Bool) : EncodingWidth.Statement (.ldle il) := (encode (.ldle il)).isLt
theorem EncodingWidth.baseval (il : Bool) : EncodingWidth.Statement (.baseval il) := (encode (.baseval il)).isLt
theorem EncodingWidth.vb (il : Bool) : EncodingWidth.Statement (.vb il) := (encode (.vb il)).isLt
theorem EncodingWidth.unpack (il : Bool) : EncodingWidth.Statement (.unpack il) := (encode (.unpack il)).isLt
theorem EncodingWidth.unpackIl (il : Bool) : EncodingWidth.Statement (.unpackIl il) := (encode (.unpackIl il)).isLt
theorem EncodingWidth.scan (il : Bool) : EncodingWidth.Statement (.scan il) := (encode (.scan il)).isLt
theorem EncodingWidth.block : EncodingWidth.Statement (.block) := (encode (.block)).isLt
theorem EncodingWidth.blockIl : EncodingWidth.Statement (.blockIl) := (encode (.blockIl)).isLt
theorem EncodingWidth.seq : EncodingWidth.Statement (.seq) := (encode (.seq)).isLt
theorem EncodingWidth.seqIl : EncodingWidth.Statement (.seqIl) := (encode (.seqIl)).isLt
theorem EncodingWidth.illegalOp0 (il : Bool) : EncodingWidth.Statement (.illegalOp0 il) := (encode (.illegalOp0 il)).isLt
theorem EncodingWidth.illegalOp9 (il : Bool) : EncodingWidth.Statement (.illegalOp9 il) := (encode (.illegalOp9 il)).isLt
theorem EncodingWidth.illegalOpAB (il : Bool) (lo : BitVec 1) : EncodingWidth.Statement (.illegalOpAB il lo) := (encode (.illegalOpAB il lo)).isLt
theorem EncodingWidth.illegalOpCF (il : Bool) (lo : BitVec 2) : EncodingWidth.Statement (.illegalOpCF il lo) := (encode (.illegalOpCF il lo)).isLt
theorem EncodingWidth.illegalRsv5 (hi : BitVec 26) (low : BitVec 5) : EncodingWidth.Statement (.illegalRsv5 hi low) := (encode (.illegalRsv5 hi low)).isLt
theorem EncodingWidth.illegalRsv6 (hi : BitVec 25) (low : BitVec 5) : EncodingWidth.Statement (.illegalRsv6 hi low) := (encode (.illegalRsv6 hi low)).isLt
theorem EncodingWidth.illegalRsv7 (hi : BitVec 24) (low : BitVec 5) : EncodingWidth.Statement (.illegalRsv7 hi low) := (encode (.illegalRsv7 hi low)).isLt
theorem EncodingWidth.illegalRsv8 (hi : BitVec 23) (low : BitVec 5) : EncodingWidth.Statement (.illegalRsv8 hi low) := (encode (.illegalRsv8 hi low)).isLt
theorem EncodingWidth.illegalRsv9 (hi : BitVec 22) (low : BitVec 5) : EncodingWidth.Statement (.illegalRsv9 hi low) := (encode (.illegalRsv9 hi low)).isLt
theorem EncodingWidth.illegalRsv10 (hi : BitVec 21) (low : BitVec 5) : EncodingWidth.Statement (.illegalRsv10 hi low) := (encode (.illegalRsv10 hi low)).isLt
theorem EncodingWidth.illegalRsv11 (hi : BitVec 20) (low : BitVec 5) : EncodingWidth.Statement (.illegalRsv11 hi low) := (encode (.illegalRsv11 hi low)).isLt
theorem EncodingWidth.illegalRsv12 (hi : BitVec 19) (low : BitVec 5) : EncodingWidth.Statement (.illegalRsv12 hi low) := (encode (.illegalRsv12 hi low)).isLt
theorem EncodingWidth.illegalRsv13 (hi : BitVec 18) (low : BitVec 5) : EncodingWidth.Statement (.illegalRsv13 hi low) := (encode (.illegalRsv13 hi low)).isLt
theorem EncodingWidth.illegalRsv14 (hi : BitVec 17) (low : BitVec 5) : EncodingWidth.Statement (.illegalRsv14 hi low) := (encode (.illegalRsv14 hi low)).isLt
theorem EncodingWidth.illegalRsv15 (hi : BitVec 16) (low : BitVec 5) : EncodingWidth.Statement (.illegalRsv15 hi low) := (encode (.illegalRsv15 hi low)).isLt
theorem EncodingWidth.illegalRsv16 (hi : BitVec 15) (low : BitVec 5) : EncodingWidth.Statement (.illegalRsv16 hi low) := (encode (.illegalRsv16 hi low)).isLt
theorem EncodingWidth.illegalRsv17 (hi : BitVec 14) (low : BitVec 5) : EncodingWidth.Statement (.illegalRsv17 hi low) := (encode (.illegalRsv17 hi low)).isLt
theorem EncodingWidth.illegalRsv18 (hi : BitVec 13) (low : BitVec 5) : EncodingWidth.Statement (.illegalRsv18 hi low) := (encode (.illegalRsv18 hi low)).isLt
theorem EncodingWidth.illegalRsv19 (hi : BitVec 12) (low : BitVec 5) : EncodingWidth.Statement (.illegalRsv19 hi low) := (encode (.illegalRsv19 hi low)).isLt
theorem EncodingWidth.illegalRsv20 (hi : BitVec 11) (low : BitVec 5) : EncodingWidth.Statement (.illegalRsv20 hi low) := (encode (.illegalRsv20 hi low)).isLt
theorem EncodingWidth.illegalRsv21 (hi : BitVec 10) (low : BitVec 5) : EncodingWidth.Statement (.illegalRsv21 hi low) := (encode (.illegalRsv21 hi low)).isLt
theorem EncodingWidth.illegalRsv22 (hi : BitVec 9) (low : BitVec 5) : EncodingWidth.Statement (.illegalRsv22 hi low) := (encode (.illegalRsv22 hi low)).isLt
theorem EncodingWidth.illegalRsv23 (hi : BitVec 8) (low : BitVec 5) : EncodingWidth.Statement (.illegalRsv23 hi low) := (encode (.illegalRsv23 hi low)).isLt
theorem EncodingWidth.illegalRsv24 (hi : BitVec 7) (low : BitVec 5) : EncodingWidth.Statement (.illegalRsv24 hi low) := (encode (.illegalRsv24 hi low)).isLt
theorem EncodingWidth.illegalRsv25 (hi : BitVec 6) (low : BitVec 5) : EncodingWidth.Statement (.illegalRsv25 hi low) := (encode (.illegalRsv25 hi low)).isLt
theorem EncodingWidth.illegalRsv26 (hi : BitVec 5) (low : BitVec 5) : EncodingWidth.Statement (.illegalRsv26 hi low) := (encode (.illegalRsv26 hi low)).isLt
theorem EncodingWidth.illegalRsv27 (hi : BitVec 4) (low : BitVec 5) : EncodingWidth.Statement (.illegalRsv27 hi low) := (encode (.illegalRsv27 hi low)).isLt
theorem EncodingWidth.illegalRsv28 (hi : BitVec 3) (low : BitVec 5) : EncodingWidth.Statement (.illegalRsv28 hi low) := (encode (.illegalRsv28 hi low)).isLt
theorem EncodingWidth.illegalRsv29 (hi : BitVec 2) (low : BitVec 5) : EncodingWidth.Statement (.illegalRsv29 hi low) := (encode (.illegalRsv29 hi low)).isLt
theorem EncodingWidth.illegalRsv30 (hi : BitVec 1) (low : BitVec 5) : EncodingWidth.Statement (.illegalRsv30 hi low) := (encode (.illegalRsv30 hi low)).isLt
theorem EncodingWidth.illegalRsv31 (low : BitVec 5) : EncodingWidth.Statement (.illegalRsv31 low) := (encode (.illegalRsv31 low)).isLt
theorem EncodingWidth.for_ (b : BitVec 5) : EncodingWidth.Statement (.for_ b) := byteWord_lt _
theorem EncodingWidth.for32 : EncodingWidth.Statement (.for32) := byteWord_lt _
theorem EncodingWidth.pforVb (b : BitVec 5) : EncodingWidth.Statement (.pforVb b) := byteWord_lt _
theorem EncodingWidth.pforVb32 : EncodingWidth.Statement (.pforVb32) := byteWord_lt _
theorem EncodingWidth.pforBitmap (b : BitVec 5) : EncodingWidth.Statement (.pforBitmap b) := byteWord_lt _
theorem EncodingWidth.pforBitmap32 : EncodingWidth.Statement (.pforBitmap32) := byteWord_lt _
theorem EncodingWidth.constant (b : BitVec 5) : EncodingWidth.Statement (.constant b) := byteWord_lt _
theorem EncodingWidth.constant32 : EncodingWidth.Statement (.constant32) := byteWord_lt _
theorem EncodingWidth.forIl (b : BitVec 5) : EncodingWidth.Statement (.forIl b) := byteWord_lt _
theorem EncodingWidth.forIl32 : EncodingWidth.Statement (.forIl32) := byteWord_lt _
theorem EncodingWidth.pforVbIl (b : BitVec 5) : EncodingWidth.Statement (.pforVbIl b) := byteWord_lt _
theorem EncodingWidth.pforVbIl32 : EncodingWidth.Statement (.pforVbIl32) := byteWord_lt _
theorem EncodingWidth.pforBitmapIl (b : BitVec 5) : EncodingWidth.Statement (.pforBitmapIl b) := byteWord_lt _
theorem EncodingWidth.pforBitmapIl32 : EncodingWidth.Statement (.pforBitmapIl32) := byteWord_lt _
theorem EncodingWidth.badWidth (ty : BlockType) (b : BitVec 6) : EncodingWidth.Statement (.badWidth ty b) := byteWord_lt _
theorem EncodingWidth.bexc (e : BitVec 5) : EncodingWidth.Statement (.bexc e) := byteWord_lt _
theorem EncodingWidth.bexc32 : EncodingWidth.Statement (.bexc32) := byteWord_lt _
theorem EncodingWidth.badWidthExc (e : Byte) : EncodingWidth.Statement (.badWidthExc e) := byteWord_lt _
theorem EncodingWidth.baseval1 (v : BitVec 7) : EncodingWidth.Statement (.baseval1 v) := byteWord_lt _
theorem EncodingWidth.baseval2 (vHi : BitVec 6) : EncodingWidth.Statement (.baseval2 vHi) := byteWord_lt _
theorem EncodingWidth.baseval3 (vHi : BitVec 5) : EncodingWidth.Statement (.baseval3 vHi) := byteWord_lt _
theorem EncodingWidth.basevalRsv (low : BitVec 5) : EncodingWidth.Statement (.basevalRsv low) := byteWord_lt _
theorem EncodingWidth.vb1 (x : Byte) : EncodingWidth.Statement (.vb1 x) := byteWord_lt _
theorem EncodingWidth.vb2 (x : Byte) : EncodingWidth.Statement (.vb2 x) := byteWord_lt _
theorem EncodingWidth.vb3 (x : Byte) : EncodingWidth.Statement (.vb3 x) := byteWord_lt _
theorem EncodingWidth.vb4 : EncodingWidth.Statement (.vb4) := byteWord_lt _
theorem EncodingWidth.vb5 : EncodingWidth.Statement (.vb5) := byteWord_lt _
theorem EncodingWidth.vbRsv (x : Byte) : EncodingWidth.Statement (.vbRsv x) := byteWord_lt _
theorem EncodingWidth.excEsc : EncodingWidth.Statement (.excEsc) := byteWord_lt _
theorem EncodingWidth.excVb (x : Byte) : EncodingWidth.Statement (.excVb x) := byteWord_lt _

end Sys2Proof.Laws
end

