-- ==== Sys2Proof/Laws/Stream.lean ====
section
/-! SUPPORT. What the block decoders' parts can answer, said once. -/

namespace Sys2Proof.Machine

variable (s : State)

/-- A CONSTANT block's gaps (R173). -/
theorem State.constantGaps_ok (c num b : Nat) (g : List Word) (e : Nat) :
    s.constantGaps c num b = .ok (g, e) ↔
      (ceilDiv b 8 = 0 ∨ c + 1 + ceilDiv b 8 ≤ s.inLen.toNat) ∧
        (∃ v, s.region (c + 1) (ceilDiv b 8) = .ok v ∧ g = List.replicate num (BitVec.ofNat 32 (v % 2 ^ b))) ∧
        e = c + 1 + ceilDiv b 8 := by
  simp only [State.constantGaps, Res.bind_eq_ok, State.need_ok, Except.ok.injEq, Prod.mk.injEq]
  constructor
  · rintro ⟨_, hn, v, hv, rfl, rfl⟩; exact ⟨hn, ⟨v, hv, rfl⟩, rfl⟩
  · rintro ⟨hn, ⟨v, hv, rfl⟩, rfl⟩; exact ⟨(), hn, v, hv, rfl, rfl⟩

/-- A FOR block's gaps (R174, R175). -/
theorem State.forGaps_ok (c num b : Nat) (il : Bool) (g : List Word) (e : Nat) :
    s.forGaps c num b il = .ok (g, e) ↔
      (packedSize s.params.bs num b il = 0 ∨ c + 1 + packedSize s.params.bs num b il ≤ s.inLen.toNat) ∧
        s.gaps (c + 1) num b il = .ok g ∧ e = c + 1 + packedSize s.params.bs num b il := by
  simp only [State.forGaps, Res.bind_eq_ok, State.need_ok, Except.ok.injEq, Prod.mk.injEq]
  constructor
  · rintro ⟨_, hn, g', hg, rfl, rfl⟩; exact ⟨hn, hg, rfl⟩
  · rintro ⟨hn, hg, rfl⟩; exact ⟨(), hn, g, hg, rfl, rfl⟩

/-- The base values of a PFOR_VB block (R178). -/
theorem State.pforVbBase_ok (c num b n : Nat) (il : Bool) (g : List Word) (e : Nat) :
    s.pforVbBase c num b n il = .ok (g, e) ↔
      ¬ (n ≠ 0 ∧ b = 32) ∧
        (packedSize s.params.bs num b il = 0 ∨ c + 2 + packedSize s.params.bs num b il ≤ s.inLen.toNat) ∧
        s.gaps (c + 2) num b il = .ok g ∧ e = c + 2 + packedSize s.params.bs num b il := by
  unfold State.pforVbBase
  split
  · rename_i h; simp [h]
  · rename_i h
    simp only [Res.bind_eq_ok, State.need_ok, Except.ok.injEq, Prod.mk.injEq, h, not_false_eq_true, true_and]
    constructor
    · rintro ⟨_, hn, g', hg, rfl, rfl⟩; exact ⟨hn, hg, rfl⟩
    · rintro ⟨hn, hg, rfl⟩; exact ⟨(), hn, g, hg, rfl, rfl⟩

/-- A PFOR_BITMAP block from its bitmap on (R176). -/
theorem State.pforBitmapBody_ok (c num b E : Nat) (il : Bool) (g : List Word) (e : Nat) :
    s.pforBitmapBody c num b E il = .ok (g, e) ↔
      ∃ nbm bitmap pos ne nb base hs,
        nbm = (if il then s.params.bs / 8 else ceilDiv num 8) ∧
        (nbm = 0 ∨ c + 2 + nbm ≤ s.inLen.toNat) ∧ s.region (c + 2) nbm = .ok bitmap ∧
        pos = bitmapPositions bitmap num ∧ ¬ (pos.length ≠ 0 ∧ b = 32) ∧
        ne = ceilDiv (pos.length * E) 8 ∧ (ne = 0 ∨ c + 2 + nbm + ne ≤ s.inLen.toNat) ∧
        nb = packedSize s.params.bs num b il ∧ (nb = 0 ∨ c + 2 + nbm + ne + nb ≤ s.inLen.toNat) ∧
        s.gaps (c + 2 + nbm + ne) num b il = .ok base ∧ s.gaps (c + 2 + nbm) pos.length E false = .ok hs ∧
        g = orAll b base (pos.zip hs) ∧ e = c + 2 + nbm + ne + nb := by
  unfold State.pforBitmapBody
  simp only [Res.bind_eq_ok, State.need_ok]
  constructor
  · rintro ⟨_, hn, bm, hb, h⟩
    split at h
    · simp at h
    · rename_i hs
      simp only [Res.bind_eq_ok, State.need_ok, Except.ok.injEq, Prod.mk.injEq] at h
      obtain ⟨_, h1, _, h2, g', h3, hs', h4, rfl, rfl⟩ := h
      exact ⟨_, bm, _, _, _, g', hs', rfl, hn, hb, rfl, hs, rfl, h1, rfl, h2, h3, h4, rfl, rfl⟩
  · rintro ⟨_, bm, _, _, _, g', hs', rfl, hn, hb, rfl, hs, rfl, h1, rfl, h2, h3, h4, rfl, rfl⟩
    refine ⟨(), hn, bm, hb, ?_⟩
    rw [if_neg hs]
    simp only [Res.bind_eq_ok, State.need_ok, Except.ok.injEq, Prod.mk.injEq]
    exact ⟨(), h1, (), h2, g', h3, hs', h4, by simp⟩

/-- The dispatcher (R171). -/
theorem State.decodeBlock_ok (c num : Nat) (il : Bool) (prev : Word) (out : List Word) (e : Nat) :
    s.decodeBlock c num il prev = .ok (out, e) ↔
      c + 1 ≤ s.inLen.toNat ∧ ∃ h : Byte, s.ibuf.read c = some h ∧ (h.extractLsb' 0 6).toNat ≤ 32 ∧
        ∃ g, s.blockGaps (decodeType h) c num (h.extractLsb' 0 6).toNat
            (il && decide (num = s.params.bs) && decide (decodeType h ≠ .constant)) = .ok (g, e) ∧
          out = scan prev g := by
  unfold State.decodeBlock
  simp only [Res.bind_eq_ok, State.need_ok, State.byteAt_ok, Nat.one_ne_zero, false_or]
  constructor
  · rintro ⟨_, hn, h, hh, hd⟩
    split at hd
    · simp at hd
    · simp only [Res.bind_eq_ok, Except.ok.injEq, Prod.mk.injEq] at hd
      obtain ⟨⟨g, e'⟩, hg, rfl, rfl⟩ := hd
      exact ⟨hn, h, hh, by omega, g, hg, rfl⟩
  · rintro ⟨hn, h, hh, hb, g, hg, rfl⟩
    refine ⟨(), hn, h, hh, ?_⟩
    rw [if_neg (by omega)]
    simp only [Res.bind_eq_ok, Except.ok.injEq, Prod.mk.injEq]
    exact ⟨(g, e), hg, rfl, rfl⟩

/-- The OBUF words SCAN reads (R182). -/
theorem State.wordsAt_ok (o n : Nat) (ws : List Word) :
    s.wordsAt o n = .ok ws ↔ ws.length = n ∧ ∀ k, k < n → s.obuf.read (o + k) = ws[k]? := by
  induction n generalizing o ws with
  | zero => cases ws <;> simp [State.wordsAt]
  | succ n ih =>
    simp only [State.wordsAt]
    constructor
    · intro h
      split at h
      · simp at h
      · rename_i w hw
        simp only [Res.bind_eq_ok, ih, Except.ok.injEq] at h
        obtain ⟨vs, ⟨hl, hv⟩, rfl⟩ := h
        refine ⟨by simp [hl], fun k hk => ?_⟩
        cases k with
        | zero => simpa using hw
        | succ k => simpa [Nat.add_comm, Nat.add_left_comm, Nat.add_assoc] using hv k (by omega)
    · rintro ⟨hl, h⟩
      cases ws with
      | nil => simp at hl
      | cons w vs =>
        have h0 : s.obuf.read o = some w := by simpa using h 0 (by omega)
        simp only [h0, Res.bind_eq_ok, ih, Except.ok.injEq]
        refine ⟨vs, ⟨by simpa using hl, fun k hk => ?_⟩, rfl⟩
        have := h (k + 1) (by omega)
        simpa [Nat.add_comm, Nat.add_left_comm, Nat.add_assoc] using this

/-- The sequence driver (R210): a seed, then its blocks. -/
theorem State.decodeSeq_ok (c n : Nat) (il : Bool) (out : List Word) (e : Nat) :
    s.decodeSeq c n il = .ok (out, e) ↔
      ∃ v len ids, s.decodeBaseval c = .ok (v, len) ∧
        s.seqBlocks il (ceilDiv (n - 1) s.params.bs) (n - 1) (c + len) v = .ok (ids, e) ∧ out = v :: ids := by
  simp only [State.decodeSeq, Res.bind_eq_ok, Except.ok.injEq, Prod.mk.injEq]
  constructor
  · rintro ⟨⟨v, len⟩, hv, ⟨ids, e'⟩, hs, rfl, rfl⟩; exact ⟨v, len, ids, hv, hs, rfl⟩
  · rintro ⟨v, len, ids, hv, hs, rfl⟩; exact ⟨(v, len), hv, (ids, e), hs, rfl, rfl⟩

end Sys2Proof.Machine
end

