-- ==== Sys2Proof/Laws/Step.lean ====
section
/-! SUPPORT. What one step can do, said once: the engine runs an instruction, the fetch traps, or the host moves. -/

namespace Sys2Proof.Machine

variable (s : State)

/-- The fetch of a command word (R241). -/
@[simp] theorem State.fetch_cmd (w : Word) (h : s.engine = .busy w 0 none) : s.fetch = .instr (decodeCmd w) := by
  simp only [State.fetch, h, decode]

/-- The fetch of a stream byte (R88). -/
theorem State.fetch_item (w : Word) (r : Run) (x : Byte) (h : s.engine = .busy w 0 (some r))
    (hl : r.cur < s.inLen.toNat) (hx : s.ibuf.read r.cur = some x) :
    s.fetch = .instr (decodeByte (r.format s.params.bs) x) := by
  have hb : s.streamByte r = .ok x := by
    simp only [State.streamByte, Res.bind_eq_ok, State.need_ok, State.byteAt_ok]
    exact ⟨(), by omega, hx⟩
  simp [State.fetch, h, hb]

/-- The fetch beyond IN_LEN traps (R222). -/
theorem State.fetch_truncated (w : Word) (r : Run) (h : s.engine = .busy w 0 (some r))
    (hl : s.inLen.toNat ≤ r.cur) : s.fetch = .trap .truncated r.cur := by
  have hb : s.streamByte r = .error (.engine .truncated r.cur) := by
    simp only [State.streamByte, Res.bind_eq_error, State.need_error]
    exact .inl ⟨⟨by omega, by omega⟩, trivial⟩
  simp [State.fetch, h, hb]

@[simp] theorem State.fetch_idle (h : s.engine = .idle) : s.fetch = .host := by
  unfold State.fetch; rw [h]

@[simp] theorem State.fetch_waiting (w : Word) (left : Nat) (run : Option Run) (h : s.engine = .busy w (left + 1) run) :
    s.fetch = .host := by
  unfold State.fetch; rw [h]

/-- Where a fetched instruction comes from. -/
theorem State.fetch_instr (i : Instr) (h : s.fetch = .instr i) :
    (∃ w, s.engine = .busy w 0 none ∧ i = decodeCmd w) ∨
      ∃ w r x, s.engine = .busy w 0 (some r) ∧ s.streamByte r = .ok x ∧ i = decodeByte (r.format s.params.bs) x := by
  unfold State.fetch at h
  split at h
  · rename_i w hw
    exact .inl ⟨w, hw, by simpa [decode, eq_comm] using h⟩
  · rename_i w r hw
    split at h
    · rename_i x hx
      exact .inr ⟨w, r, x, hw, hx, by simpa [eq_comm] using h⟩
    · simp at h
    · simp at h
  · simp at h
  · simp at h

/-- Everything a step can do when it answers a next state. -/
theorem step_next (t : State) (h : step s = .next t) :
    (∃ i, s.fetch = .instr i ∧ exec i s = .next t) ∨
      (∃ code off, s.fetch = .trap code off ∧ t = s.faultEntry code off s.runningWriteSet) ∨
      (s.fetch = .host ∧ s.hostTurn = .next t) := by
  unfold step at h
  split at h
  · exact .inl ⟨_, ‹_›, h⟩
  · exact .inr (.inl ⟨_, _, ‹_›, by simpa [eq_comm] using h⟩)
  · simp at h
  · exact .inr (.inr ⟨‹_›, h⟩)

/-- When a host access goes through (R60, R70–R72, R78). -/
theorem State.hostAccess_next (sp : Space) (addr width : Nat) (access : Nat → State) (t : State) :
    s.hostAccess sp addr width access = .next t ↔
      sp.allows s.params addr width = true ∧ ∃ a, a < sp.size s.params ∧ addr = sp.base s.params + a ∧ t = access a := by
  unfold State.hostAccess
  split
  · split
    · rename_i h
      simp only [Host.Outcome.next.injEq, true_and, *]
      constructor
      · rintro rfl; exact ⟨_, by omega, by omega, rfl⟩
      · rintro ⟨a, -, ha, rfl⟩; congr 1; omega
    · rename_i h
      simp only [reduceCtorEq, false_iff, not_and, not_exists]
      intro _ a ha hb; omega
  · simp [*]

/-- The access at place `a` of a space (R33, R70–R72). -/
theorem State.hostAccess_at (sp : Space) (a width : Nat) (access : Nat → State) (ha : a < sp.size s.params)
    (hw : sp.allows s.params (sp.base s.params + a) width = true) :
    s.hostAccess sp (sp.base s.params + a) width access = .next (access a) :=
  (State.hostAccess_next s _ _ _ _ _).2 ⟨hw, a, ha, rfl, rfl⟩

/-- The offsets of R33 and the registers that stand there. -/
@[simp] theorem regAt_offset (r : Reg) : regAt r.offset = r := by cases r <;> rfl

/-- A step of the time a BUSY engine leaves to the host touches the engine's count alone. -/
theorem State.tick_frame : s.tick = { s with engine := s.tick.engine } := by
  unfold State.tick; split <;> rfl

/-- It leaves the phase. -/
theorem State.busy_tick (rest : List HostOp) : State.busy { s.tick with hostQ := rest } = s.busy := by
  cases h : s.engine <;> simp [State.tick, State.busy, h]

/-- The host's turn, on the first move of its list. -/
theorem step_host (op : HostOp) (rest : List HostOp) (hf : s.fetch = .host) (hq : s.hostQ = op :: rest) :
    step s = State.hostMove { s.tick with hostQ := rest } op := by
  simp only [step, hf, State.hostTurn, hq]

/-- The host's turn reads place `a` of a space (R63, R70–R72, R91). -/
theorem step_host_read (sp : Space) (a width : Nat) (rest : List HostOp) (hf : s.fetch = .host)
    (hq : s.hostQ = .read sp (sp.base s.params + a) width :: rest) (ha : a < sp.size s.params)
    (hw : sp.allows s.params (sp.base s.params + a) width = true) :
    step s = .next (State.hostRead { s.tick with hostQ := rest } sp a) := by
  have hp : ({ s.tick with hostQ := rest } : State).params = s.params := s.tick_params
  rw [step_host s _ rest hf hq, State.hostMove, ← hp]
  exact State.hostAccess_at _ sp a width _ (hp ▸ ha) (hp ▸ hw)

/-- The host's turn writes place `a` of a space (R70–R72, R91, R234). -/
theorem step_host_write (sp : Space) (a width : Nat) (v : Word) (rest : List HostOp) (hf : s.fetch = .host)
    (hq : s.hostQ = .write sp (sp.base s.params + a) width v :: rest) (ha : a < sp.size s.params)
    (hw : sp.allows s.params (sp.base s.params + a) width = true) :
    step s = .next (State.hostWrite { s.tick with hostQ := rest } sp a v) := by
  have hp : ({ s.tick with hostQ := rest } : State).params = s.params := s.tick_params
  rw [step_host s _ rest hf hq, State.hostMove, ← hp]
  exact State.hostAccess_at _ sp a width _ (hp ▸ ha) (hp ▸ hw)

/-- An aligned register offset may be accessed (R60). -/
theorem regAccess_allowed (p : Params) (off : Nat) (h : off % 4 = 0) :
    Space.allows p .reg (Space.base p .reg + off) 4 = true := by
  have : (p.regBase + off) % 4 = p.regBase % 4 := by omega
  simp [Space.allows, Space.base, this]

/-- The offsets of R33 are aligned and inside REG. -/
theorem regOffset_legal (r : Reg) : r.offset % 4 = 0 ∧ r.offset < 256 := by cases r <;> decide

/-- The reserved offsets (R58). -/
theorem regAt_reserved (off : Nat) (h : 0x38 ≤ off) : regAt off = .reserved := by
  obtain ⟨n, hn⟩ : ∃ n, off / 4 = n + 14 := ⟨off / 4 - 14, by omega⟩
  simp only [regAt, hn]

/-- The host's turn is `rd REG` (R119). -/
theorem step_rd (r : Reg) (rest : List HostOp) (hf : s.fetch = .host) (hq : s.hostQ = HostOp.rd s.params r :: rest) :
    step s = .next (State.readReg { s.tick with hostQ := rest } r) := by
  have := step_host_read s .reg r.offset 4 rest hf hq (regOffset_legal r).2
    (regAccess_allowed _ _ (regOffset_legal r).1)
  simpa only [State.hostRead, regAt_offset] using this

/-- The host's turn is `wr REG, V` (R119). -/
theorem step_wr (r : Reg) (v : Word) (rest : List HostOp) (hf : s.fetch = .host)
    (hq : s.hostQ = HostOp.wr s.params r v :: rest) :
    step s = .next (State.writeReg { s.tick with hostQ := rest } r v) := by
  have := step_host_write s .reg r.offset 4 v rest hf hq (regOffset_legal r).2
    (regAccess_allowed _ _ (regOffset_legal r).1)
  simpa only [State.hostWrite, regAt_offset] using this

/-- Everything the host's turn can do when it answers a next state. -/
theorem State.hostTurn_next (t : State) (h : s.hostTurn = .next t) :
    (s.hostQ = [] ∧ t = s.tick) ∨ ∃ op rest, s.hostQ = op :: rest ∧ { s.tick with hostQ := rest }.hostMove op = .next t := by
  unfold State.hostTurn at h
  split at h
  · exact .inl ⟨‹_›, by simpa [eq_comm] using h⟩
  · exact .inr ⟨_, _, ‹_›, h⟩

/-- Everything one host move can do when it answers a next state. -/
theorem State.hostMove_next (op : HostOp) (t : State) (h : s.hostMove op = .next t) :
    (∃ sp a width, op = .read sp (sp.base s.params + a) width ∧ a < sp.size s.params ∧ t = s.hostRead sp a) ∨
      (∃ sp a width v, op = .write sp (sp.base s.params + a) width v ∧ a < sp.size s.params ∧ t = s.hostWrite sp a v) ∨
      (op = .wait ∧ (t = s.readReg .status ∨ t = { s.readReg .status with hostQ := .wait :: s.hostQ })) ∨
      (op = .waitIrq ∧ (t = s ∨ t = { s with hostQ := .waitIrq :: s.hostQ })) ∨
      (op = .powerOn ∧ t = s.powerOn) := by
  cases op with
  | read sp addr width =>
    obtain ⟨-, a, ha, rfl, rfl⟩ := (State.hostAccess_next _ _ _ _ _ _).1 h
    exact .inl ⟨sp, a, width, rfl, ha, rfl⟩
  | write sp addr width v =>
    obtain ⟨-, a, ha, rfl, rfl⟩ := (State.hostAccess_next s sp addr width (fun a => s.hostWrite sp a v) t).1 h
    exact .inr (.inl ⟨sp, a, width, v, rfl, ha, rfl⟩)
  | wait =>
    refine .inr (.inr (.inl ⟨rfl, ?_⟩))
    simp only [State.hostMove] at h
    split at h
    · exact .inl (by simpa [eq_comm] using h)
    · exact .inr (by simpa [eq_comm] using h)
  | waitIrq =>
    refine .inr (.inr (.inr (.inl ⟨rfl, ?_⟩)))
    simp only [State.hostMove] at h
    split at h
    · exact .inl (by simpa [eq_comm] using h)
    · exact .inr (by simpa [eq_comm] using h)
  | powerOn => exact .inr (.inr (.inr (.inr ⟨rfl, by simpa [State.hostMove, eq_comm] using h⟩)))

end Sys2Proof.Machine
end

