-- ==== Sys2Proof/Tests/Slice0.lean ====
section
/-! SUPPORT. The model's own tests: ill-formed terms, decoding of words written out from spec/30_encoding.md, one step of
each instruction on vectors of spec/95_test_vectors.md, and a witness for the hypotheses of every obligation. -/

namespace Sys2Proof.Tests

open Sys2Proof.Machine

/-- The engine of 95_test_vectors.md, at bases of the platform's choosing. -/
def benchParams : Params := ⟨.bs128, .exact, .faultOnFf, 1024, 512, 0x8000, 0x4000, 0x2001⟩

/-- An IDLE engine of 95_test_vectors.md (BS = 128, EXACT, FAULT_ON_FF) whose stream is `xs`. -/
def bench (xs : List Byte) : State :=
  { State.reset with
    params := benchParams
    ibuf := Memory.writeAll [] 0 xs
    inLen := BitVec.ofNat 32 xs.length }

/-- `s` with a BLOCK of `n` positions in flight that awaits `e` at `c`. -/
def flight (s : State) (n c : Nat) (e : Expect) : State :=
  { s with count := BitVec.ofNat 32 n, engine := .busy 7 0 (some ⟨c, s.prev, [], n, false, e⟩) }

/-- The same for BLOCK il. -/
def flightIl (s : State) (n c : Nat) (e : Expect) : State :=
  { s with count := BitVec.ofNat 32 n, engine := .busy 0x17 0 (some ⟨c, s.prev, [], n, true, e⟩) }

/-- `o` is a next state with the property `p`. -/
def after (o : Host.Outcome State Fault Refusal) (p : State → Bool) : Bool :=
  match o with
  | .next t => p t
  | .fault _ => false
  | .refused _ => false

/-- OBUF words from index 0. -/
def words (s : State) (n : Nat) : List (Option Word) := (List.range n).map s.obuf.read

/-- STATUS and ERR_OFF after a fault (95_test_vectors.md's `X@A`). -/
def faultedAt (code off : Nat) (t : State) : Bool :=
  decide (t.statusWord = BitVec.ofNat 32 (6 + 256 * code)) && decide (t.errOff = BitVec.ofNat 32 off)

/-- IL1's region (95_test_vectors.md). -/
def il1 : List Byte := [1, 0, 0, 0, 0, 0, 0, 0, 0, 0, 0, 0x80, 0xFF, 0xFF, 0xFF, 0xFF]

/-! ### Ill-formed terms -/

theorem test_wf_refuses_narrow_badWidth : (Instr.badWidth .for_ 32).wf = false := by decide

theorem test_wf_refuses_narrow_badWidthExc : (Instr.badWidthExc 32).wf = false := by decide

theorem test_wf_refuses_vb_first_bytes :
    (Instr.vb1 177).wf = false ∧ (Instr.vb2 176).wf = false ∧ (Instr.vb2 241).wf = false ∧
      (Instr.vb3 240).wf = false ∧ (Instr.vb3 249).wf = false ∧ (Instr.vbRsv 250).wf = false := by decide

theorem test_wf_refuses_excVb_escape : (Instr.excVb 255).wf = false := by decide

theorem test_wf_refuses_stream_items :
    (StreamItem.baseval (2 ^ 21)).wf = false ∧ (StreamItem.baseval2 (2 ^ 14)).wf = false ∧
      (StreamItem.baseval3 (2 ^ 21)).wf = false ∧ (StreamItem.vb (2 ^ 32)).wf = false ∧
      (StreamItem.vb4 (2 ^ 24)).wf = false ∧ (StreamItem.vb5 (2 ^ 32)).wf = false ∧
      (StreamItem.hdr .for_ 64).wf = false ∧ (StreamItem.packed 33 []).wf = false ∧
      (StreamItem.packed 2 [4]).wf = false ∧ (StreamItem.packedIl 1 [1]).wf = false ∧
      (StreamItem.packedIl 33 []).wf = false ∧ (StreamItem.le 1 256).wf = false := by decide

/-! ### Decoding: words written out field by field from R101–R111 -/

theorem test_decode_commands :
    decodeCmd 0b00000000000000000000000_0000_0_0001#32 = .ldle false ∧ decodeCmd 0x00000011 = .ldle true ∧
      decodeCmd 0b00000000000000000000000_0000_0_0010#32 = .baseval false ∧
      decodeCmd 0b00000000000000000000000_0000_0_0011#32 = .vb false ∧
      decodeCmd 0b00000000000000000000000_0000_0_0100#32 = .unpack false ∧
      decodeCmd 0b00000000000000000000000_0000_0_0101#32 = .unpackIl false ∧
      decodeCmd 0b00000000000000000000000_0000_1_0110#32 = .scan true ∧
      decodeCmd 0b00000000000000000000000_0000_0_0111#32 = .block ∧ decodeCmd 0x00000017 = .blockIl ∧
      decodeCmd 0b00000000000000000000000_0000_0_1000#32 = .seq ∧ decodeCmd 0x00000018 = .seqIl := by decide

theorem test_decode_illegal_op :
    decodeCmd 0x00000000 = .illegalOp0 false ∧ decodeCmd 0x00000019 = .illegalOp9 true ∧
      decodeCmd 0x0000000A = .illegalOpAB false 0 ∧ decodeCmd 0x0000000B = .illegalOpAB false 1 ∧
      decodeCmd 0x0000000C = .illegalOpCF false 0 ∧ decodeCmd 0x0000001F = .illegalOpCF true 3 := by decide

theorem test_decode_illegal_rsv_low :
    decodeCmd 0x00000021 = .illegalRsv5 0 1 ∧ decodeCmd 0x000000C1 = .illegalRsv6 1 1 ∧
      decodeCmd 0x00000080 = .illegalRsv7 0 0 ∧ decodeCmd 0x00000100 = .illegalRsv8 0 0 ∧
      decodeCmd 0x00000200 = .illegalRsv9 0 0 ∧ decodeCmd 0x00000400 = .illegalRsv10 0 0 ∧
      decodeCmd 0x00000800 = .illegalRsv11 0 0 ∧ decodeCmd 0x00001000 = .illegalRsv12 0 0 ∧
      decodeCmd 0x00002000 = .illegalRsv13 0 0 ∧ decodeCmd 0x00004000 = .illegalRsv14 0 0 ∧
      decodeCmd 0x00008000 = .illegalRsv15 0 0 ∧ decodeCmd 0x00010000 = .illegalRsv16 0 0 ∧
      decodeCmd 0x00020000 = .illegalRsv17 0 0 := by decide

theorem test_decode_illegal_rsv_high :
    decodeCmd 0x00040000 = .illegalRsv18 0 0 ∧ decodeCmd 0x00080000 = .illegalRsv19 0 0 ∧
      decodeCmd 0x00100000 = .illegalRsv20 0 0 ∧ decodeCmd 0x00200000 = .illegalRsv21 0 0 ∧
      decodeCmd 0x00400000 = .illegalRsv22 0 0 ∧ decodeCmd 0x00800000 = .illegalRsv23 0 0 ∧
      decodeCmd 0x01000000 = .illegalRsv24 0 0 ∧ decodeCmd 0x02000000 = .illegalRsv25 0 0 ∧
      decodeCmd 0x04000000 = .illegalRsv26 0 0 ∧ decodeCmd 0x08000000 = .illegalRsv27 0 0 ∧
      decodeCmd 0x10000000 = .illegalRsv28 0 0 ∧ decodeCmd 0x60000000 = .illegalRsv29 1 0 ∧
      decodeCmd 0xC0000000 = .illegalRsv30 1 0 ∧ decodeCmd 0x8000001F = .illegalRsv31 31 := by decide

theorem test_decode_headers :
    decodeHdr false 0b00_000100#8 = .for_ 4 ∧ decodeHdr false 0b00_100000#8 = .for32 ∧
      decodeHdr false 0b01_000001#8 = .pforVb 1 ∧ decodeHdr false 0b01_100000#8 = .pforVb32 ∧
      decodeHdr false 0b10_000010#8 = .pforBitmap 2 ∧ decodeHdr false 0b10_100000#8 = .pforBitmap32 ∧
      decodeHdr false 0b11_000101#8 = .constant 5 ∧ decodeHdr true 0b11_100000#8 = .constant32 ∧
      decodeHdr true 0b00_011111#8 = .forIl 31 ∧ decodeHdr true 0b00_100000#8 = .forIl32 ∧
      decodeHdr true 0b01_000001#8 = .pforVbIl 1 ∧ decodeHdr true 0b01_100000#8 = .pforVbIl32 ∧
      decodeHdr true 0b10_000001#8 = .pforBitmapIl 1 ∧ decodeHdr true 0b10_100000#8 = .pforBitmapIl32 ∧
      decodeHdr true 0b01_100001#8 = .badWidth .pforVb 33 ∧ decodeHdr false 0b11_111111#8 = .badWidth .constant 63 :=
  by decide

theorem test_decode_bexc :
    decodeBexc 0x04 = .bexc 4 ∧ decodeBexc 0x1F = .bexc 31 ∧ decodeBexc 0x20 = .bexc32 ∧
      decodeBexc 0x21 = .badWidthExc 33 := by decide

theorem test_decode_scalars :
    decodeBasevalByte 0b0_1111111#8 = .baseval1 127 ∧ decodeBasevalByte 0b10_000011#8 = .baseval2 3 ∧
      decodeBasevalByte 0b110_00001#8 = .baseval3 1 ∧ decodeBasevalByte 0b111_00000#8 = .basevalRsv 0 ∧
      decodeVbByte 0xB0 = .vb1 0xB0 ∧ decodeVbByte 0xB1 = .vb2 0xB1 ∧ decodeVbByte 0xF0 = .vb2 0xF0 ∧
      decodeVbByte 0xF1 = .vb3 0xF1 ∧ decodeVbByte 0xF8 = .vb3 0xF8 ∧ decodeVbByte 0xF9 = .vb4 ∧
      decodeVbByte 0xFA = .vb5 ∧ decodeVbByte 0xFB = .vbRsv 0xFB := by decide

theorem test_decode_excArea : decodeExcArea 0xFF = .excEsc ∧ decodeExcArea 0xFE = .excVb 0xFE := by decide

/-- Scenario 4 and 5 of 95_test_vectors.md, written with the assembler's items (R118). -/
theorem test_assemble_scenarios :
    assemble [.baseval 0, .hdr .pforBitmap 2, .bytes [4, 0x24], .packed 4 [5, 6],
        .packed 2 [1, 1, 1, 1, 1, 1, 1, 1]] = [0x00, 0x82, 0x04, 0x24, 0x65, 0x55, 0x55] ∧
      assemble (.baseval 0 :: StreamItem.blockPforVb 1 [(2, 300)] [0, 0, 0, 0]) =
        [0x00, 0x41, 0x01, 0x00, 0xB1, 0x7B, 0x02] := by decide

theorem test_packIl_lanes : leBytes 16 (packIl 1 ((List.range 128).map fun p =>
    if p = 0 ∨ p = 126 ∨ p % 4 = 3 then 1 else 0)) = il1 := by decide +kernel

/-- The table's words are decoded and placed. -/
theorem test_table_words :
    decodeTableWord 32 0x00000007 = some .block ∧ decodeTableWord 8 0x41 = some (.pforVb 1) ∧
      (State.reset.withFetchWord 32 0x00000018).fetch = .instr .seqIl ∧
      (State.reset.withFetchWord 8 0xC5).fetch = .instr (.constant 5) := by decide

/-! ### Commands: vectors of 95_test_vectors.md -/

/-- LD4. -/
theorem test_ldle_eight_bytes :
    after (exec (.ldle false) { bench [0x11, 0x22, 0x33, 0x44, 0x55, 0x66, 0x77, 0x88] with bw := 8 }) (fun t =>
      t.resultLo == 0x44332211#32 && t.resultHi == 0x88776655#32 && t.cur == 0 && t.done) = true := by decide

/-- LD7. -/
theorem test_ldle_truncated :
    after (exec (.ldle true) { bench [0x11, 0x22, 0x33, 0x44, 0x55, 0x66, 0x77, 0x88] with cur := 6, bw := 4 })
      (faultedAt 5 6) = true := by decide

/-- BV10. -/
theorem test_baseval_byte_swap :
    after (exec (.baseval false) (bench [0xC1, 0x02, 0x03])) (fun t =>
      t.resultLo == 66306#32 && t.cur == 3 && t.consumed == 3) = true := by decide

/-- BV12. -/
theorem test_baseval_reserved : after (exec (.baseval false) (bench [0xE0])) (faultedAt 2 0) = true := by decide

/-- VB7. -/
theorem test_vb_three_bytes :
    after (exec (.vb false) (bench [0xF1, 0x34, 0x12])) (fun t => t.resultLo == 21221#32 && t.cur == 3) = true := by
  decide

/-- VB17. -/
theorem test_vb_truncated : after (exec (.vb false) (bench [0xF9, 0x01, 0x02])) (faultedAt 5 0) = true := by decide

/-- UP2. -/
theorem test_unpack_crosses_bytes :
    after (exec (.unpack false) { bench [0xD5, 0x03] with bw := 3, count := 4 }) (fun t =>
      words t 5 == [some 5, some 2, some 7, some 1, none] && t.outIdx == 4) = true := by decide

/-- UP4 in WINDOW32: the top bit of field 2 is lost (90_conflicts.md C1). -/
theorem test_unpack_window32 :
    after (exec (.unpack false)
      { bench [0, 0, 0, 0, 0, 0, 0xC0, 0xFF, 0xFF, 0xFF, 1] with
        bw := 27, count := 3, params := { benchParams with contigMode := .window32 } }) (fun t =>
      words t 3 == [some 0, some 0, some 0x03FFFFFF]) = true := by decide

/-- IL1. -/
theorem test_unpackIl_lanes :
    after (exec (.unpackIl false) { bench il1 with bw := 1, count := 128 }) (fun t =>
      words t 8 == [some 1, some 0, some 0, some 1, some 0, some 0, some 0, some 1] &&
        t.obuf.read 126 == some 1 && t.obuf.read 125 == some 0 && t.cur == 16) = true := by decide +kernel

/-- IL5. -/
theorem test_unpackIl_needs_full_block :
    after (exec (.unpackIl false) { bench il1 with bw := 1, count := 127 }) (faultedAt 8 0) = true := by decide

/-- SC2. -/
theorem test_scan_wraps :
    after (exec (.scan false) { bench [] with obuf := [(0, 0), (1, 0), (2, 0)], prev := 0xFFFFFFFE, count := 3 })
      (fun t => words t 3 == [some 0xFFFFFFFF, some 0, some 1] && t.prev == 1 && t.outIdx == 3) = true := by
  decide

/-- SC4. -/
theorem test_scan_out_range :
    after (exec (.scan false)
      { bench [] with outIdx := 2, count := 3, params := { benchParams with outCap := 4 } })
      (faultedAt 9 0) = true := by decide

/-- The worked example of R183. -/
theorem test_block_bitmap :
    after (exec .block { bench [0x00, 0x82, 0x04, 0x24, 0x65, 0x55, 0x55] with cur := 1, count := 8, outIdx := 1 })
      (fun t => t.obuf.read 1 == some 2 && t.obuf.read 3 == some 26 && t.obuf.read 8 == some 60 && t.prev == 60 &&
        t.cur == 7 && t.consumed == 6 && t.outIdx == 9) = true := by decide

/-- VBB13. -/
theorem test_block_vb_reserved :
    after (exec .block { bench [0x41, 0x02, 0x00, 0x05, 0xFF, 0x00, 0x01] with count := 4 }) (faultedAt 3 4) = true := by
  decide

/-- FB4. -/
theorem test_blockIl_for :
    after (exec .blockIl { bench (0x01 :: il1) with count := 128 }) (fun t =>
      words t 4 == [some 2, some 3, some 4, some 6] && t.obuf.read 127 == some 162 && t.cur == 17) = true := by
  decide +kernel

/-- CB5. -/
theorem test_blockIl_constant :
    after (exec .blockIl { bench [0xC0] with count := 128, prev := 7 }) (fun t =>
      t.obuf.read 0 == some 8 && t.prev == 135 && t.consumed == 1) = true := by decide +kernel

/-- S5e. -/
theorem test_seq_escape :
    after (exec .seq { bench [0x00, 0x41, 0x01, 0x00, 0xFF, 0x2C, 0x01, 0x00, 0x00, 0x02] with count := 5 })
      (fun t => words t 5 == [some 0, some 1, some 2, some 603, some 604] && t.cur == 10 && t.prev == 604) =
        true := by decide

/-- SQ7: the incoming PREV is ignored. -/
theorem test_seq_ignores_prev :
    after (exec .seq { bench [0x2A] with count := 1, prev := 99 }) (fun t => t.obuf.read 0 == some 42 && t.prev == 42) =
      true := by decide

/-- SQ3. -/
theorem test_seqIl_partial_tail :
    after (exec .seqIl { bench [0, 0, 0] with count := 130 }) (fun t =>
      t.obuf.read 0 == some 0 && t.obuf.read 128 == some 128 && t.obuf.read 129 == some 129 && t.cur == 3) = true := by
  decide +kernel

/-- P6: an ILLEGAL_CMD word faults at CUR, and a high RSV bit is as good as a low one. -/
theorem test_illegal_commands :
    after (exec (decodeCmd 0x00000009) { bench [] with cur := 5 }) (faultedAt 1 5) = true ∧
      after (exec (decodeCmd 0x80000001) { bench [] with cur := 5 }) (faultedAt 1 5) = true := by decide

/-! ### Stream items -/

/-- FB1's block as an item: the BLOCK completes. -/
theorem test_for_item :
    after (exec (.for_ 4) (flight { bench [0x04, 0xA9, 0x0B] with prev := 10 } 3 0 .header)) (fun t =>
      words t 3 == [some 20, some 31, some 43] && t.cur == 3 && t.done && !t.busy) = true := by decide

/-- FB3. -/
theorem test_for32_item :
    after (exec .for32 (flight (bench [0x20, 0xFF, 0xFF, 0xFF, 0xFF, 0, 0, 0, 0]) 2 0 .header)) (fun t =>
      words t 2 == [some 0, some 1] && t.consumed == 9) = true := by decide

/-- CB3 and CB4. -/
theorem test_constant_items :
    after (exec (.constant 12) (flight (bench [0xCC, 0xFF, 0xFF]) 2 0 .header)) (fun t =>
      words t 2 == [some 4096, some 8192]) = true ∧
      after (exec .constant32 (flight (bench [0xE0, 0xFF, 0xFF, 0xFF, 0xFF]) 2 0 .header)) (fun t =>
        words t 2 == [some 0, some 0] && t.cur == 5) = true := by decide

/-- FB4's block, and b = 32 as IL3's first words. -/
theorem test_forIl_item :
    after (exec (.forIl 1) (flightIl (bench (0x01 :: il1)) 128 0 .header)) (fun t =>
      words t 4 == [some 2, some 3, some 4, some 6] && t.prev == 162) = true := by decide +kernel

theorem test_forIl32_truncated :
    after (exec .forIl32 (flightIl (bench (0x20 :: il1)) 128 0 .header)) (faultedAt 5 1) = true := by decide

/-- VBB1's block, item by item. -/
theorem test_pforVb_items :
    after (exec (.pforVb 1) (flight (bench [0x41, 0x01, 0x00, 0xB1, 0x7B, 0x02]) 4 0 .header)) (fun t =>
      t.engine == .busy 7 0 (some ⟨3, 0, [], 4, false, .excArea 4 1 1 [0, 0, 0, 0]⟩) && t.obuf == []) = true ∧
      after (exec (.excVb 0xB1) (flight (bench [0x41, 0x01, 0x00, 0xB1, 0x7B, 0x02]) 4 3 (.excArea 4 1 1 [0, 0, 0, 0])))
        (fun t => t.engine == .busy 7 0 (some ⟨3, 0, [], 4, false, .excVb 4 1 1 [0, 0, 0, 0] []⟩)) = true ∧
      after (exec (.vb2 0xB1)
        (flight (bench [0x41, 0x01, 0x00, 0xB1, 0x7B, 0x02]) 4 3 (.excVb 4 1 1 [0, 0, 0, 0] [])))
        (fun t => words t 4 == [some 1, some 2, some 603, some 604] && t.cur == 6) = true := by decide

/-- VBB2's exception area. -/
theorem test_excEsc_item :
    after (exec .excEsc
      (flight (bench [0x41, 0x01, 0x00, 0xFF, 0x2C, 0x01, 0x00, 0x00, 0x02]) 4 3 (.excArea 4 1 1 [0, 0, 0, 0])))
      (fun t => words t 4 == [some 1, some 2, some 603, some 604] && t.cur == 9) = true := by decide

/-- VBB11: the index byte is out of range. -/
theorem test_vb_item_bad_index :
    after (exec (.vb2 0xB1)
      (flight (bench [0x41, 0x01, 0x00, 0xB1, 0x7B, 0x04]) 4 3 (.excVb 4 1 1 [0, 0, 0, 0] [])))
      (fun t => faultedAt 4 5 t && t.cur == 0) = true := by decide

/-- VBB16, and VBB9 in the interleaved flavour. -/
theorem test_pforVb32_and_pforVbIl_items :
    after (exec .pforVb32 (flight (bench [0x60, 0x01]) 1 0 .header)) (faultedAt 7 0) = true ∧
      after (exec .pforVbIl32 (flightIl (bench [0x60, 0x01]) 128 0 .header)) (faultedAt 7 0) = true ∧
      after (exec (.pforVbIl 0) (flightIl (bench [0x40, 0x00]) 128 0 .header)) (fun t =>
        t.obuf.read 127 == some 128 && t.cur == 2) = true := by decide +kernel

/-- PB1's block, item by item; BEXC = 32; and PB9. -/
theorem test_pforBitmap_items :
    after (exec (.pforBitmap 2) (flight (bench [0x82, 0x04, 0x24, 0x65, 0x55, 0x55]) 8 0 .header)) (fun t =>
      t.engine == .busy 7 0 (some ⟨1, 0, [], 8, false, .bexc 0 8 2 false⟩)) = true ∧
      after (exec (.bexc 4) (flight (bench [0x82, 0x04, 0x24, 0x65, 0x55, 0x55]) 8 1 (.bexc 0 8 2 false))) (fun t =>
        words t 8 == [some 2, some 4, some 26, some 28, some 30, some 56, some 58, some 60]) = true ∧
      after (exec .bexc32 (flight (bench [0x80, 0x20, 0x01, 0x07, 0x00, 0x00, 0x00]) 1 1 (.bexc 0 1 0 false))) (fun t =>
        t.obuf.read 0 == some 8 && t.cur == 7) = true ∧
      after (exec (.badWidthExc 33) (flight (bench [0x80, 0x21]) 3 1 (.bexc 0 3 0 false))) (faultedAt 6 1) = true := by
  decide

/-- PB11, and PB5 in the interleaved flavour. -/
theorem test_pforBitmap32_and_pforBitmapIl_items :
    after (exec .pforBitmap32 (flight (bench [0xA0, 0x00, 0x01]) 1 0 .header)) (fun t =>
      t.engine == .busy 7 0 (some ⟨1, 0, [], 1, false, .bexc 0 1 32 false⟩)) = true ∧
      after (exec (.bexc 0) (flight (bench [0xA0, 0x00, 0x01]) 1 1 (.bexc 0 1 32 false))) (faultedAt 7 0) = true ∧
      after (exec .pforBitmapIl32 (flightIl (bench [0xA0, 0x00]) 128 0 .header)) (fun t =>
        t.engine == .busy 0x17 0 (some ⟨1, 0, [], 128, true, .bexc 0 128 32 true⟩)) = true ∧
      after (exec (.pforBitmapIl 1) (flightIl (bench [0x81, 0x02]) 128 0 .header)) (fun t =>
        t.engine == .busy 0x17 0 (some ⟨1, 0, [], 128, true, .bexc 0 128 1 true⟩)) = true := by decide

/-- CB8. -/
theorem test_badWidth_item :
    after (exec (.badWidth .constant 63) (flight (bench [0xFF]) 1 0 .header)) (faultedAt 6 0) = true := by decide

/-- BV2, BV6, BV11 and BV13 as the BASEVAL command's item. -/
theorem test_baseval_items :
    after (exec (.baseval1 127) (flight (bench [0x7F]) 0 0 .scalarBaseval)) (fun t => t.resultLo == 127#32) = true ∧
      after (exec (.baseval2 63) (flight (bench [0xBF, 0xFF]) 0 0 .scalarBaseval)) (fun t => t.resultLo == 16383#32) =
        true ∧
      after (exec (.baseval3 31) (flight (bench [0xDF, 0xFF, 0xFF]) 0 0 .scalarBaseval)) (fun t =>
        t.resultLo == 2097151#32 && t.cur == 3) = true ∧
      after (exec (.basevalRsv 31) (flight (bench [0xFF, 0, 0]) 0 0 .scalarBaseval)) (faultedAt 2 0) = true := by decide

/-- VB2, VB8, VB9, VB13 and VB14 as the VB command's item. -/
theorem test_vb_items :
    after (exec (.vb1 0xB0) (flight (bench [0xB0]) 0 0 .scalarVb)) (fun t => t.resultLo == 176#32) = true ∧
      after (exec (.vb3 0xF8) (flight (bench [0xF8, 0xFF, 0xFF]) 0 0 .scalarVb)) (fun t => t.resultLo == 540848#32) =
        true ∧
      after (exec .vb4 (flight (bench [0xF9, 1, 2, 3]) 0 0 .scalarVb)) (fun t => t.resultLo == 197121#32) = true ∧
      after (exec .vb5 (flight (bench [0xFA, 0xFF, 0xFF, 0xFF, 0xFF]) 0 0 .scalarVb)) (fun t =>
        t.resultLo == 4294967295#32 && t.cur == 5) = true ∧
      after (exec (.vbRsv 0xFB) (flight (bench [0xFB]) 0 0 .scalarVb)) (faultedAt 3 0) = true := by decide

/-- A seed item starts the first block of a SEQ (R210). -/
theorem test_seed_item :
    after (exec (.baseval1 42) { bench [0x2A, 0x00] with
        count := 2, engine := .busy 8 0 (some ⟨0, 0, [], 2, false, .seed⟩) }) (fun t =>
      t.engine == .busy 8 0 (some ⟨1, 42, [42], 1, false, .header⟩)) = true := by decide

/-! ### The host -/

/-- P5's `clr`: STATUS 0x206 becomes 0 and ERR_OFF stays. -/
theorem test_clear_status :
    after (step { bench [0xE0] with
        done := true, err := true, errCode := 2, errOff := 3, hostQ := [HostOp.clr benchParams] }) (fun t =>
      t.statusWord == 0 && t.errOff == 3 && t.hostQ == []) = true := by decide

/-- A write while BUSY is lost and sets OVR (R234). -/
theorem test_busy_write_sets_ovr :
    after (step { bench [] with engine := .busy 7 1 none, hostQ := [HostOp.wr benchParams .count 9] }) (fun t =>
      t.count == 0 && t.ovr && t.engine == .busy 7 0 none) = true := by decide

/-- P8: a soft reset keeps the buffers. -/
theorem test_soft_reset :
    after (step { bench [0x0A] with obuf := [(0, 10)], prev := 43, done := true, hostQ := [HostOp.wr benchParams .ctrl 2] })
      (fun t => t.prev == 0 && t.statusWord == 0 && t.ibuf.read 0 == some 0x0A && t.obuf.read 0 == some 10) = true := by
  decide

/-- R60: a halfword access, and one at an unaligned register offset, are refused. -/
theorem test_bus_errors :
    (match step { bench [] with hostQ := [.read .reg 0x8004 2] } with
      | .refused (.busError .reg 0x8004 2) => true
      | _ => false) = true ∧
      (match step { bench [] with hostQ := [.read .reg 0x8006 4] } with
      | .refused (.busError .reg 0x8006 4) => true
      | _ => false) = true := by decide

/-- R70–R72: the address before IBUF_BASE and the one after the last OBUF word do not exist; the last of each does. -/
theorem test_addresses_count_from_the_bases :
    (match step { bench [] with hostQ := [.read .ibuf 0x3FFF 1] } with
      | .fault (.noSuchAddress .ibuf 0x3FFF) => true
      | _ => false) = true ∧
      (match step { bench [] with hostQ := [.read .obuf 0x2201 4] } with
      | .fault (.noSuchAddress .obuf 0x2201) => true
      | _ => false) = true ∧
      after (step { bench [] with hostQ := [HostOp.ob benchParams 511 9] }) (fun t => t.obuf.read 511 == some 9) = true ∧
      after (step { bench [] with hostQ := HostOp.ib benchParams 1023 [9] }) (fun t => t.ibuf.read 1023 == some 9) =
        true := by decide

/-! ### Witnesses: a state and operands that meet the hypotheses of each obligation, clause by clause -/

/-- 131 zero-width positions: SQ3's shape. -/
def zeroBlocks : List (Nat × List Nat) := [(0, List.replicate 128 0), (4, [9, 15])]

theorem test_witness_DecodeEncodeAgree :
    (Instr.badWidth .pforVb 33).wf = true ∧ (Instr.badWidthExc 33).wf = true ∧ (Instr.vb1 176).wf = true ∧
      (Instr.vb2 177).wf = true ∧ (Instr.vb2 240).wf = true ∧ (Instr.vb3 241).wf = true ∧ (Instr.vb3 248).wf = true ∧
      (Instr.vbRsv 251).wf = true ∧ (Instr.excVb 254).wf = true := by decide

theorem test_witness_CommandWordsDecode :
    BitVec.extractLsb' 5 27 0x00000021#32 ≠ 0 ∧ BitVec.extractLsb' 5 27 0x0000001F#32 = 0 ∧
      9 ≤ (BitVec.extractLsb' 0 4 0x00000009#32).toNat ∧ BitVec.extractLsb' 0 4 0x00000018#32 = 8 := by decide

theorem test_witness_ScalarRoundTrip :
    (bench (encodeBaseval 2097151)).holds 0 (encodeBaseval 2097151) ∧
      (bench (encodeBaseval 16384)).holds 0 (encodeBaseval 16384) ∧
      (bench (encodeVb 4294967295)).holds 0 (encodeVb 4294967295) ∧
      (bench (encodeVb 16561)).holds 0 (encodeVb 16561) := by decide +kernel

theorem test_witness_PackUnpackRoundTrip :
    (∀ v ∈ [9, 10, 15], v < 2 ^ 4) ∧ (∀ v ∈ List.replicate 128 4294967295, v < 2 ^ 32) ∧
      (List.replicate 128 4294967295).length % 128 = 0 := by decide +kernel

theorem test_witness_SequenceRoundTrip :
    (∀ p ∈ zeroBlocks, p.1 ≤ 32 ∧ 1 ≤ p.2.length ∧ p.2.length ≤ 128 ∧ ∀ x ∈ p.2, x < 2 ^ p.1) ∧
      (∀ p ∈ zeroBlocks.dropLast, p.2.length = 128) ∧
      (bench (assemble (.baseval 2097151 :: zeroBlocks.flatMap fun p => StreamItem.blockFor p.1 p.2))).holds 0
        (assemble (.baseval 2097151 :: zeroBlocks.flatMap fun p => StreamItem.blockFor p.1 p.2)) := by decide +kernel

theorem test_witness_PforVbBlockRoundTrip :
    (∀ x ∈ [0, 0, 1, 0], x < 2 ^ 1) ∧ (∀ p ∈ [(2, 300), (3, 4294967295)], p.1 < 4 ∧ p.1 < 256 ∧ p.2 < 2 ^ 32) ∧
      (bench (assemble (StreamItem.blockPforVb 1 [(2, 300), (3, 4294967295)] [0, 0, 1, 0]))).holds 0
        (assemble (StreamItem.blockPforVb 1 [(2, 300), (3, 4294967295)] [0, 0, 1, 0])) ∧
      (bench (assemble (StreamItem.blockPforVbEsc 1 [(2, 300), (3, 4294967295)] [0, 0, 1, 0]))).holds 0
        (assemble (StreamItem.blockPforVbEsc 1 [(2, 300), (3, 4294967295)] [0, 0, 1, 0])) := by decide +kernel

/-- A BUSY engine, and an OBUF word just outside and one inside what its abort may change. -/
theorem test_witness_ResetValues :
    { bench [] with count := 3, outIdx := 2, engine := .busy 7 5 none }.runningWriteSet = 3 ∧
      ¬ (2 ≤ 5 ∧ 5 < 2 + 3) ∧ ¬ (2 ≤ 1 ∧ 1 < 2 + 3) ∧ Reg.reserved ≠ .config := by decide

theorem test_witness_CtrlWriteResetsOrSetsIe :
    { bench [] with engine := .busy 7 1 none, hostQ := [HostOp.wr benchParams .ctrl 3] }.fetch = .host ∧
      { bench [] with hostQ := [HostOp.wr benchParams .ctrl 1] }.fetch = .host ∧ BitVec.getLsbD 3#32 1 = true ∧
      BitVec.getLsbD 1#32 1 = false := by decide

/-- An RW register, a read-only one, the first and last reserved offsets, the last IBUF byte and the last OBUF word. -/
theorem test_witness_HostWritesReadBack :
    (bench []).engine = .idle ∧
      { bench [] with hostQ := [HostOp.wr benchParams .bw 0xFF] }.hostQ = HostOp.wr (bench []).params .bw 0xFF :: [] ∧
      HostOp.wr benchParams .consumed 0 = .write .reg (0x8000 + 0x34) 4 0 ∧
      { bench [] with hostQ := [.write .reg (0x8000 + 0xFC) 4 1] }.hostQ =
        .write .reg ((bench []).params.regBase + 0xFC) 4 1 :: [] ∧ 0xFC % 4 = 0 ∧ 0xFC < 0x100 ∧ 0x38 % 4 = 0 ∧
      1023 < (bench []).params.inCap ∧
      { bench [] with hostQ := [.write .ibuf (0x4000 + 1023) 1 0x1FF] }.hostQ =
        .write .ibuf ((bench []).params.ibufBase + 1023) 1 0x1FF :: [] ∧ 511 < (bench []).params.outCap ∧
      { bench [] with hostQ := [.write .obuf (0x2001 + 511) 4 7] }.hostQ =
        .write .obuf ((bench []).params.obufBase + 511) 4 7 :: [] := by decide

theorem test_witness_StatusRegister :
    { bench [] with done := true, err := true, errCode := 2, hostQ := [HostOp.clr benchParams] }.engine = .idle ∧
      { bench [] with done := true, err := true, errCode := 2, hostQ := [HostOp.clr benchParams] }.hostQ =
        HostOp.wr (bench []).params .status 0xE :: [] := by decide

theorem test_witness_ConfigRegister :
    (bench []).params.blockSize = .bs128 ∧ (bench []).params.contigMode = .exact ∧
      (bench []).params.vbEmpty = .faultOnFf ∧ { benchParams with vbEmpty := .noRead }.vbEmpty = .noRead ∧
      { benchParams with vbEmpty := .consume }.vbEmpty = .consume := by decide

theorem test_witness_BusyWritesAreLostAndSetOvr :
    { bench [] with engine := .busy 7 1 none, hostQ := [HostOp.wr benchParams .cmd 8] }.engine = .busy 7 (0 + 1) none ∧
      { bench [] with hostQ := [HostOp.wr benchParams .cmd 8] }.hostQ = HostOp.wr (bench []).params .cmd 8 :: [] ∧
      1023 < (bench []).params.inCap ∧ 511 < (bench []).params.outCap ∧ BitVec.getLsbD 1#32 1 = false ∧
      { bench [] with hostQ := [.write .reg (0x8000 + 0xFC) 4 1] }.hostQ =
        .write .reg ((bench []).params.regBase + 0xFC) 4 1 :: [] ∧ 0xFC % 4 = 0 := by decide

theorem test_witness_CommandWriteIsAccepted :
    { bench [] with hostQ := [HostOp.wr benchParams .cmd 0x21] }.engine = .idle ∧
      { bench [] with hostQ := [HostOp.wr benchParams .cmd 0x21] }.hostQ =
        HostOp.wr (bench []).params .cmd 0x21 :: [] ∧
      { bench [0xC0] with count := 1, prev := 9 }.startRun 0x17 = some ⟨0, 9, [], 1, true, .header⟩ := by decide

/-- Both phases; the last reserved offset; the last IBUF byte and OBUF word, written and not. -/
theorem test_witness_HostReadsOnlyAnswer :
    { bench [] with engine := .busy 7 1 none, hostQ := [HostOp.rd benchParams .cur] }.fetch = .host ∧
      { bench [] with engine := .busy 7 1 none }.busy = true ∧ (bench []).fetch = .host ∧
      { bench [] with hostQ := [HostOp.rd benchParams .ctrl] }.hostQ = HostOp.rd (bench []).params .ctrl :: [] ∧
      { bench [] with hostQ := [.read .reg (0x8000 + 0xFC) 4] }.hostQ =
        .read .reg ((bench []).params.regBase + 0xFC) 4 :: [] ∧ 0xFC % 4 = 0 ∧
      { bench [] with hostQ := [.read .ibuf (0x4000 + 1023) 1] }.hostQ =
        .read .ibuf ((bench []).params.ibufBase + 1023) 1 :: [] ∧ 1023 < (bench []).params.inCap ∧
      { bench [] with ibuf := [(1023, 5)] }.ibuf.read 1023 = some 5 ∧ (bench []).ibuf.read 1023 = none ∧
      { bench [] with hostQ := [.read .obuf (0x2001 + 511) 4] }.hostQ =
        .read .obuf ((bench []).params.obufBase + 511) 4 :: [] ∧ 511 < (bench []).params.outCap ∧
      { bench [] with obuf := [(511, 5)] }.obuf.read 511 = some 5 ∧ (bench []).obuf.read 511 = none := by decide

theorem test_witness_IrqFalls :
    { bench [] with ie := true, done := true }.irq = true ∧ { bench [] with ie := true, done := true }.busy = false ∧
      BitVec.getLsbD 2#32 1 = true ∧ BitVec.getLsbD 2#32 0 = false := by decide

/-- The five clauses: a CMD word, a stream byte just below IN_LEN, a cursor at IN_LEN, IDLE, time left. -/
theorem test_witness_StepRunsTheDecodedInstruction :
    { bench [0xC0] with engine := .busy 7 0 none }.engine = .busy 7 0 none ∧
      (flight (bench [0xC0]) 1 0 .header).engine = .busy 7 0 (some ⟨0, 0, [], 1, false, .header⟩) ∧
      0 < (bench [0xC0]).inLen.toNat ∧ (bench [0xC0]).ibuf.read 0 = some 0xC0 ∧ (bench []).inLen.toNat ≤ 0 ∧
      (bench []).engine = .idle ∧ { bench [] with engine := .busy 7 1 none }.engine = .busy 7 (0 + 1) none := by decide

/-- LD9, LD7 and LD6. -/
theorem test_witness_LdleResult :
    (bench [1, 2, 3, 4]).inLen.toNat ≤ (bench [1, 2, 3, 4]).params.inCap ∧ (3#6).toNat ∉ [1, 2, 4, 8] ∧
      (4#6).toNat ∈ [1, 2, 4, 8] ∧ (bench [1, 2, 3, 4]).inLen.toNat < 1 + (4#6).toNat ∧
      (bench [1, 2, 3, 4]).holds 0 [1, 2, 3, 4] := by decide

theorem test_witness_BasevalResult :
    (bench []).inLen.toNat ≤ 0 ∧ (bench [0xE0]).ibuf.read 0 = some 0xE0 ∧ (bench [0xBF]).inLen.toNat < 0 + 2 ∧
      (bench [0xDF, 0]).inLen.toNat < 0 + 3 ∧
      basevalForm (decode .basevalByte 0x7F#32) [] 127 ∧ (bench [0x7F]).regionHolds 1 [] ∧
      basevalForm (decode .basevalByte 0xC1#32) [0x02, 0x03] 66306 ∧
      (bench [0xC1, 0x02, 0x03]).regionHolds 1 [0x02, 0x03] :=
  ⟨by decide, by decide, by decide, by decide, .inl ⟨127, by decide⟩, by decide, .inr (.inr ⟨1, 2, 3, by decide⟩),
    by decide⟩

theorem test_witness_VbResult :
    (bench [0xFB]).ibuf.read 0 = some 0xFB ∧ (bench [0xF0]).inLen.toNat < 0 + 2 ∧
      (bench [0xF8, 0]).inLen.toNat < 0 + 3 ∧ (bench [0xFA, 0, 0, 0]).inLen.toNat < 0 + 5 ∧
      vbForm (decode .vbByte 0xB0#32) [] 176 ∧ vbForm (decode .vbByte 0xF0#32) [0xFF] 16560 ∧
      vbForm (decode .vbByte 0xF8#32) [0xFF, 0xFF] 540848 ∧ vbForm (decode .vbByte 0xF9#32) [1, 2, 3] 197121 ∧
      vbForm (decode .vbByte 0xFA#32) [0xFF, 0xFF, 0xFF, 0xFF] 4294967295 ∧
      (bench [0xFA, 0xFF, 0xFF, 0xFF, 0xFF]).regionHolds 1 [0xFF, 0xFF, 0xFF, 0xFF] :=
  ⟨by decide, by decide, by decide, by decide, .inl ⟨0xB0, by decide⟩, .inr (.inl ⟨0xF0, 0xFF, by decide⟩),
    .inr (.inr (.inl ⟨0xF8, 0xFF, 0xFF, by decide⟩)), .inr (.inr (.inr (.inl ⟨1, 2, 3, by decide⟩))),
    .inr (.inr (.inr (.inr ⟨0xFF, 0xFF, 0xFF, 0xFF, by decide⟩))), by decide⟩

/-- UP7; an output one past OUT_CAP; UP6; UP1, and UP5's empty region. -/
theorem test_witness_UnpackResult :
    32 < (33#6).toNat ∧ (32#6).toNat ≤ 32 ∧ (bench []).params.outCap < (510#32).toNat + (3#32).toNat ∧
      (509#32).toNat + (3#32).toNat ≤ (bench []).params.outCap ∧ ceilDiv (3 * 4) 8 ≠ 0 ∧
      (bench [0xA9]).inLen.toNat < 0 + ceilDiv (3 * 4) 8 ∧ (bench [0xA9, 0x0B]).regionHolds 0 [0xA9, 0x0B] ∧
      (bench []).regionHolds 0 [] ∧ ceilDiv (5 * 0) 8 = 0 := by decide

/-- IL5, BW = 33, OUT_IDX = 385, IL6, IL1. -/
theorem test_witness_UnpackIlResult :
    (127#32).toNat ≠ (bench []).params.bs ∧ (128#32).toNat = (bench []).params.bs ∧ 32 < (33#6).toNat ∧
      (bench []).params.outCap < (385#32).toNat + 128 ∧ (384#32).toNat + 128 ≤ (bench []).params.outCap ∧
      (bench (il1.take 15)).inLen.toNat < 0 + 128 * 1 / 8 ∧ (bench il1).regionHolds 0 il1 ∧
      il1.length = (bench []).params.bs * 1 / 8 := by decide

/-- SC4, SC1, and an empty scan at the end of OBUF. -/
theorem test_witness_ScanResult :
    (bench []).params.outCap < (510#32).toNat + (3#32).toNat ∧
      { bench [] with obuf := [(509, 9), (510, 10), (511, 11)] }.obufHolds 509 [9, 10, 11] ∧
      (509#32).toNat + 3 ≤ (bench []).params.outCap ∧ (bench []).obufHolds 512 [] ∧
      (bench []).obuf.read (511 + 0) = none ∧ (511#32).toNat + (1#32).toNat ≤ (bench []).params.outCap := by decide

theorem test_witness_ScanIsMonotone :
    (4294967290#32).toNat + ([2#32, 1#32].map fun w => w.toNat + 1).sum ≤ 2 ^ 32 - 1 := by decide

theorem test_witness_SeedIndependence :
    (bench [0x04, 0xA9, 0x0B]).decodeBlock 0 3 false 10 = .ok ([20, 31, 43], 3) := by decide

/-- CB9, CB10, CB11, FB7, FB1. -/
theorem test_witness_BlockResult :
    (0#32).toNat = 0 ∧ (bench []).params.bs < (129#32).toNat ∧ (128#32).toNat ≤ (bench []).params.bs ∧
      (bench []).params.outCap < (510#32).toNat + 3 ∧ (509#32).toNat + 3 ≤ (bench []).params.outCap ∧
      (bench [0x04, 0xA9]).decodeBlock 0 3 false 0 = .error (.engine .truncated 1) ∧
      (bench [0x04, 0xA9, 0x0B]).decodeBlock 0 3 true 10 = .ok ([20, 31, 43], 3) := by decide

/-- CB4's widest constant, and FB4's full interleaved block. -/
theorem test_witness_BlockCompletesOnConstantAndFor :
    (bench [0xE0, 0xFF, 0xFF, 0xFF, 0xFF]).holds 0 [0xE0, 0xFF, 0xFF, 0xFF, 0xFF] ∧ decodeType 0xE0 = .constant ∧
      (BitVec.extractLsb' 0 6 0xE0#8).toNat = 32 ∧ ceilDiv 32 8 = [0xFF#8, 0xFF, 0xFF, 0xFF].length ∧
      (bench (0x01 :: il1)).holds 0 (0x01 :: il1) ∧ decodeType 0x01 = .for_ ∧
      il1.length = packedSize 128 128 1 (true && decide (128 = (bench []).params.bs)) := by decide

/-- No header, CB7, a full interleaved FOR block and a partial one, which is contiguous. -/
theorem test_witness_DispatcherSelectsTheBlockDecoder :
    (bench []).inLen.toNat ≤ 0 ∧ (bench [0xE1]).ibuf.read 0 = some 0xE1 ∧ (BitVec.extractLsb' 0 6 0xE1#8).toNat = 33 ∧
      (true = true ↔ true = true ∧ 128 = (bench []).params.bs) ∧ (false = true ↔ true = true ∧ 127 = (bench []).params.bs) ∧
      (BitVec.extractLsb' 0 6 0x20#8).toNat = 32 ∧ BitVec.extractLsb' 6 2 0x20#8 = 0 ∧
      (bench [0x20]).forGaps 0 127 32 false = .error (.engine .truncated 1) ∧ BitVec.extractLsb' 6 2 0xC0#8 = 3 ∧
      (bench [0xC0]).constantGaps 0 3 0 = .ok ([0, 0, 0], 1) := by decide

/-- CB6 and CB3. -/
theorem test_witness_ConstantBlockGaps :
    (bench [0xC5]).inLen.toNat < 0 + 1 + ceilDiv 5 8 ∧ [0xFF#8, 0xFF].length = ceilDiv 12 8 ∧
      (bench [0xCC, 0xFF, 0xFF]).regionHolds 1 [0xFF, 0xFF] ∧ (bench [0xC0]).regionHolds 1 [] := by decide

/-- FB7, FB1 and FB4. -/
theorem test_witness_ForBlockGaps :
    (bench [0x04, 0xA9]).inLen.toNat < 0 + 1 + ceilDiv (3 * 4) 8 ∧
      (bench [0x04, 0xA9, 0x0B]).regionHolds 1 [0xA9, 0x0B] ∧ (bench (0x01 :: il1)).regionHolds 1 il1 ∧
      il1.length = 128 * 1 / 8 := by decide

/-- No BEXC, PB9, PB10, PB11, missing exception bits, PB13, PB1. -/
theorem test_witness_PforBitmapBlockGaps :
    (bench [0x80]).inLen.toNat ≤ 0 + 1 ∧ (bench [0x80, 0x21]).ibuf.read 1 = some 33 ∧
      (bench [0x80, 0x05]).inLen.toNat < 0 + 2 + [0x00#8].length ∧ (bench [0xA0, 0x00, 0x01]).regionHolds 2 [0x01] ∧
      (List.range 1).filter (fun k => (leNat [0x01]).testBit k) ≠ [] ∧
      (bench [0x82, 0x04, 0x24]).inLen.toNat < 0 + 2 + 1 + ceilDiv (2 * 4) 8 ∧
      (bench [0x82, 0x04, 0x24, 0x65]).inLen.toNat < 0 + 2 + 1 + 1 + packedSize 128 8 2 false ∧
      (bench [0x82, 0x04, 0x24, 0x65, 0x55, 0x55]).regionHolds 2 [0x24] ∧
      (List.range 8).filter (fun k => (leNat [0x24]).testBit k) = [2, 5] ∧
      (bench [0x82, 0x04, 0x24, 0x65, 0x55, 0x55]).regionHolds 3 [0x65] ∧
      (bench [0x82, 0x04, 0x24, 0x65, 0x55, 0x55]).regionHolds 4 [0x55, 0x55] := by decide

/-- No NEXC, VBB16, missing base values, VBB14, VBB15, VBB11, VBB1. -/
theorem test_witness_PforVbBlockGaps :
    (bench [0x41]).inLen.toNat ≤ 0 + 1 ∧ (bench [0x60, 0x01]).ibuf.read 1 = some 1 ∧
      (bench [0x41, 0x01]).inLen.toNat < 0 + 2 + packedSize 128 4 1 false ∧
      (bench [0x41, 0x01, 0x00, 0xFF, 0x2C, 0x01, 0x00]).excArea 3 1 = .error (.engine .truncated 4) ∧
      (bench [0x41, 0x01, 0x00, 0xB1, 0x7B]).excArea 3 1 = .ok ([300], 5) ∧
      (bench [0x41, 0x01, 0x00, 0xB1, 0x7B]).inLen.toNat < 5 + 1 ∧
      (bench [0x41, 0x01, 0x00, 0xB1, 0x7B, 0x04]).regionHolds 5 [0x04] ∧ 4 ≤ ([0x04#8].getD 0 0).toNat ∧
      (bench [0x41, 0x01, 0x00, 0xB1, 0x7B, 0x02]).regionHolds 2 [0x00] ∧
      (bench [0x41, 0x01, 0x00, 0xB1, 0x7B, 0x02]).regionHolds 5 [0x02] ∧ (∀ x ∈ [0x02#8], x.toNat < 4) := by decide

/-- VBB9, VBB10, VBB8, an area at IN_LEN, VBB2, VBB14, VBB1. -/
theorem test_witness_ExceptionAreaForms :
    (bench [0x41, 0x00, 0x00]).inLen.toNat ≤ 3 ∧ (bench [0x41, 0x00, 0x00, 0x05]).ibuf.read 3 = some 0x05 ∧
      (bench [0x41, 0x00, 0x00, 0xFF]).ibuf.read 3 = some 0xFF ∧
      (bench [0xFF, 0x2C, 0x01, 0x00, 0x00]).holds 0 (0xFF#8 :: [300#32].flatMap fun v => leBytes 4 v.toNat) ∧
      (bench [0xFF, 0x2C, 0x01, 0x00]).holds 0 (0xFF#8 :: ([] : List Word).flatMap fun v => leBytes 4 v.toNat) ∧
      (bench [0xFF, 0x2C, 0x01, 0x00]).inLen.toNat < 0 + 1 + 4 * 0 + 4 ∧ (bench [0xB1, 0x7B]).ibuf.read 0 = some 0xB1 :=
  by decide

theorem test_witness_DecodedBlockShape :
    (bench [0xC0]).decodeBlock 0 3 false 5 = .ok ([6, 7, 8], 1) := by decide

/-- PB5's bytes (95_test_vectors.md). -/
def pb5 : List Byte := [0x81, 0x02] ++ List.replicate 15 0x00 ++ [0x80, 0x03] ++ List.replicate 16 0xFF

/-- A full PFOR_VB block of b = 1, all base values 1, with the exception value 1 at position 1. -/
def vbOnes : List Byte := [0x41, 0x01] ++ List.replicate 16 0xFF ++ [0x01, 0x01]

/-- With b = 1 and every bit set both layouts hold the same fields, wherever the region stands. -/
theorem sameBase_ones (xs ys : List Byte) (a a' : Nat)
    (h : (bench xs).region a (128 * 1 / 8) = .ok (2 ^ 128 - 1))
    (h' : (bench ys).region a' (ceilDiv (128 * 1) 8) = .ok (2 ^ 128 - 1)) :
    (bench xs).sameBase (bench ys) a a' 1 := by
  intro r r' hr hr'
  obtain rfl : 2 ^ 128 - 1 = r := Except.ok.inj (h.symm.trans hr)
  obtain rfl : 2 ^ 128 - 1 = r' := Except.ok.inj (h'.symm.trans hr')
  show ∀ p, p < 128 → ilGap (2 ^ 128 - 1) p 1 = contigField (2 ^ 128 - 1) p 1
  decide +kernel

/-- FOR in two places. -/
theorem test_witness_InterleavedEqualsContiguous :
    (bench (List.replicate 17 0xFF)).sameBase (bench (List.replicate 20 0xFF)) 1 4 1 ∧
      (bench (List.replicate 17 0xFF)).forGaps 0 128 1 true = .ok (List.replicate 128 1, 17) ∧
      (bench (List.replicate 20 0xFF)).forGaps 3 128 1 false = .ok (List.replicate 128 1, 20) :=
  ⟨sameBase_ones _ _ _ _ (by decide +kernel) (by decide +kernel), by decide +kernel, by decide +kernel⟩

/-- PB5's bytes, which PB6 reads in the other flavour: 35 bytes, the base values at 19. -/
theorem test_witness_InterleavedEqualsContiguous_bitmap :
    (bench pb5).sameBase (bench pb5) (35 - 128 * 1 / 8) (35 - ceilDiv (128 * 1) 8) 1 ∧
      (match (bench pb5).pforBitmapGaps 0 128 1 true, (bench pb5).pforBitmapGaps 0 128 1 false with
        | .ok (g, 35), .ok (g', 35) => g == g' && g.getD 127 0 == 7
        | _, _ => false) = true :=
  ⟨sameBase_ones _ _ _ _ (by decide +kernel) (by decide +kernel), by decide +kernel⟩

/-- One exception, of position 1, in the vb form, moved by one byte in the second stream. -/
theorem test_witness_InterleavedEqualsContiguous_vb :
    (bench vbOnes).sameBase (bench (0 :: vbOnes)) 2 3 1 ∧
      (bench vbOnes).inLen.toNat + 1 = (bench (0 :: vbOnes)).inLen.toNat + 0 ∧
      (∀ k, k = 1 ∨ 2 + 128 * 1 / 8 ≤ k → (bench vbOnes).ibuf.read (0 + k) = (bench (0 :: vbOnes)).ibuf.read (1 + k)) ∧
      (match (bench vbOnes).pforVbGaps 0 128 1 true, (bench (0 :: vbOnes)).pforVbGaps 1 128 1 false with
        | .ok (g, 20), .ok (g', 21) => g == g' && g.getD 1 0 == 3
        | _, _ => false) = true := by
  refine ⟨sameBase_ones _ _ _ _ (by decide +kernel) (by decide +kernel), by decide +kernel, fun k _ => ?_,
    by decide +kernel⟩
  show (Memory.writeAll [] 0 vbOnes).read (0 + k) = (Memory.writeAll [] 0 (0 :: vbOnes)).read (1 + k)
  rw [Memory.read_writeAll, Memory.read_writeAll]
  simp only [List.length_cons, Memory.read_nil]
  by_cases h : k < vbOnes.length
  · rw [if_pos (by omega), if_pos (by omega), show 0 + k - 0 = k by omega, show 1 + k - 0 = k + 1 by omega,
      List.getElem?_cons_succ]
  · rw [if_neg (by omega), if_neg (by omega)]

theorem test_witness_ContiguousReaderIsWindow32 :
    1 ≤ 27 ∧ 27 ≤ 32 ∧ ¬ (2 * 27 % 8 + 27 ≤ 32) ∧ 1 * 27 % 8 + 27 ≤ 32 ∧ 28 ∉ [27, 29, 30, 31] := by decide

theorem test_witness_LaneReaderIsIlField : 1 ≤ 1 ∧ 32 ≤ 32 ∧ 3 < 4 := by decide

/-- SQ8, SQ1, SQ5, S3. -/
theorem test_witness_SeqResult :
    (bench []).params.outCap < (512#32).toNat + 1 ∧ (511#32).toNat + 1 ≤ (bench []).params.outCap ∧
      (bench [0xE0]).decodeSeq 0 3 false = .error (.engine .basevalRsv 0) ∧
      (bench [0x0A, 0x04, 0xA9, 0x0B]).decodeSeq 0 4 true = .ok ([10, 20, 31, 43], 4) := by decide

/-- SQ2, and the longest seed, which ends at IN_LEN. -/
theorem test_witness_SeqOfOneIsItsSeed :
    (bench [0x2A]).holds 0 [0x2A] ∧ basevalForm (decode .basevalByte 0x2A#32) [] 42 ∧
      (bench [0xDF, 0xFF, 0xFF]).holds 0 [0xDF, 0xFF, 0xFF] ∧
      basevalForm (decode .basevalByte 0xDF#32) [0xFF, 0xFF] 2097151 ∧ (511#32).toNat + 1 ≤ (bench []).params.outCap :=
  ⟨by decide, .inl ⟨42, by decide⟩, by decide, .inr (.inr ⟨31, 0xFF, 0xFF, by decide⟩), by decide⟩

theorem test_witness_SeqIgnoresPrev :
    ∃ t, exec .seq { bench [0x2A] with count := 1 } = .next t ∧ t.err = false :=
  ⟨{ bench [0x2A] with
      count := 1, obuf := [(0, 42)], prev := 42, cur := 1, outIdx := 1, consumed := 1, done := true },
    by rfl, by decide⟩

theorem test_witness_IllegalCommandsFault :
    (Instr.illegalOpCF true 3).isIllegalCmd = true ∧ (Instr.illegalRsv31 0).isIllegalCmd = true := by decide

theorem test_witness_OversizedInputIsBadParam :
    Instr.seqIl.isCommand = true ∧ (bench []).params.inCap < (1025#32).toNat := by decide

/-- LDLE whose last byte was never written. -/
theorem test_witness_UnwrittenReadsStop :
    (0#32).toNat + (2#6).toNat ≤ (2#32).toNat ∧ { bench [0x11] with inLen := 2 }.ibuf.read 1 = none ∧
      (∀ j, j < 1 → ({ bench [0x11] with inLen := 2 }.ibuf.read (0 + j)).isSome = true) := by decide

/-- FB1 and CB3 as items; FB4 in the interleaved flavour. -/
theorem test_witness_ForAndConstantItems :
    (flight (bench [0x04, 0xA9, 0x0B]) 3 0 .header).regionHolds 1 [0xA9, 0x0B] ∧
      (Instr.for_ 4).headerOf = some (.for_, 4, some false) ∧
      Run.useIL 128 ⟨0, 0, [], 3, false, .header⟩ = false ∧
      [0xA9#8, 0x0B].length = packedSize 128 (Run.num 128 ⟨0, 0, [], 3, false, .header⟩) 4 false ∧
      Instr.constant32.headerOf = some (.constant, 32, none) ∧
      (flightIl (bench (0x01 :: il1)) 128 0 .header).regionHolds 1 il1 ∧
      Run.useIL 128 ⟨0, 0, [], 128, true, .header⟩ = true ∧
      il1.length = packedSize 128 (Run.num 128 ⟨0, 0, [], 128, true, .header⟩) 1 true := by decide

/-- PB1's header, bitmap and regions, and PB11's. -/
theorem test_witness_PforBitmapItems :
    (Instr.pforBitmap32).headerOf = some (.pforBitmap, 32, some false) ∧
      (Instr.pforBitmapIl 1).headerOf = some (.pforBitmap, 1, some true) ∧
      (flight (bench [0x82, 0x04, 0x24, 0x65, 0x55, 0x55]) 8 1 (.bexc 0 8 2 false)).regionHolds 2 [0x24] ∧
      (flight (bench [0x82, 0x04, 0x24, 0x65, 0x55, 0x55]) 8 1 (.bexc 0 8 2 false)).regionHolds 3 [0x65] ∧
      (flight (bench [0x82, 0x04, 0x24, 0x65, 0x55, 0x55]) 8 1 (.bexc 0 8 2 false)).regionHolds 4 [0x55, 0x55] ∧
      [0x65#8].length = ceilDiv ([2, 5].length * 4) 8 ∧ [0x55#8, 0x55].length = packedSize 128 8 2 false ∧
      (flight (bench [0xA0, 0x00, 0x01]) 1 1 (.bexc 0 1 32 false)).regionHolds 2 [0x01] := by decide

/-- VBB16, VBB9 and VBB1. -/
theorem test_witness_PforVbHeaderItems :
    Instr.pforVb32.headerOf = some (.pforVb, 32, some false) ∧ 0 + 1 < (bench [0x60, 0x01]).inLen.toNat ∧
      (bench [0x41, 0x00, 0x00]).regionHolds 2 [0x00] ∧ [0x00#8].length = packedSize 128 4 1 false ∧
      (bench [0x41, 0x00, 0x00]).inLen.toNat ≤ 0 + 2 + [0x00#8].length ∧
      (bench [0x60, 0x00, 1, 2, 3, 4, 0xFE]).ibuf.read (0 + 2 + 4) = some 0xFE ∧
      (bench [0x60, 0x00, 1, 2, 3, 4, 0xFE]).regionHolds 2 [1, 2, 3, 4] ∧ 4 = packedSize 128 1 32 false ∧
      Run.useIL 128 ⟨0, 0, [], 1, false, .header⟩ = false ∧
      (bench [0x41, 0x01, 0x00, 0xB1, 0x7B, 0x02]).regionHolds 2 [0x00] := by decide

theorem test_witness_ExceptionAreaItems :
    (flight (bench [0x41, 0x01, 0x00, 0xFF, 0x2C, 0x01, 0x00, 0x00, 0x02]) 4 3 (.excArea 4 1 1 [0, 0, 0, 0])).holds
        (3 + 1) (([300#32].flatMap fun v => leBytes 4 v.toNat) ++ [0x02]) ∧
      (∀ x ∈ [0x02#8], x.toNat < 4) := by decide

/-- BV11 as BASEVAL's item and as a seed, VB13 as VB's item, VBB1's last value and index byte. -/
theorem test_witness_ScalarItems :
    basevalForm (.baseval3 31) [0xFF, 0xFF] 2097151 ∧
      (flight (bench [0xDF, 0xFF, 0xFF]) 0 0 .scalarBaseval).regionHolds 1 [0xFF, 0xFF] ∧
      vbForm (.vb2 0xB1) [0x7B] 300 ∧
      (flight (bench [0x41, 0x01, 0x00, 0xB1, 0x7B, 0x02]) 4 3 (.excVb 4 1 1 [0, 0, 0, 0] [])).regionHolds 4 [0x7B] ∧
      (flight (bench [0x41, 0x01, 0x00, 0xB1, 0x7B, 0x02]) 4 3 (.excVb 4 1 1 [0, 0, 0, 0] [])).holds (3 + 2) [0x02] ∧
      ([] : List Word).length + 1 < 2 :=
  ⟨.inr (.inr ⟨31, 0xFF, 0xFF, by decide⟩), by decide, .inr (.inl ⟨0xB1, 0x7B, by decide⟩), by decide, by decide,
    by decide⟩

theorem test_witness_ReservedItemsFault :
    (flight (bench [0xFF]) 1 0 .header).engine = .busy 7 0 (some ⟨0, 0, [], 1, false, .header⟩) := by decide

/-- A command in flight, and a state with every piece of the invariant at work, from which a step goes on. -/
theorem test_witness_StepKeepsInvariant :
    (flight (bench [0x82, 0x04, 0x24, 0x65, 0x55, 0x55]) 8 1 (.bexc 0 8 2 false)).Inv ∧
      { bench [0x0A] with obuf := [(511, 10)], err := true, errCode := 10, done := true }.Inv ∧
      after (step (flight (bench [0x82, 0x04, 0x24, 0x65, 0x55, 0x55]) 8 1 (.bexc 0 8 2 false))) (fun t => decide t.Inv) =
        true := by decide

theorem test_witness_EngineNeverWritesInputs :
    after (exec .block { bench [0x04, 0xA9, 0x0B] with count := 3 }) (fun t => t.ibuf == [(0, 0x04), (1, 0xA9), (2, 0x0B)]) =
      true := by decide

theorem test_witness_CommandsWriteOnlyTheirWriteSet :
    after (exec .block { bench [0xC0] with count := 3, outIdx := 2, obuf := [(1, 7), (5, 8)] }) (fun t =>
      t.obuf.read 1 == some 7 && t.obuf.read 5 == some 8) = true ∧ ¬ (2 ≤ 1 ∧ 1 < 2 + 3) ∧ ¬ (2 ≤ 5 ∧ 5 < 2 + 3) := by
  decide

theorem test_witness_CommandsAreAllOrNothing :
    Instr.block.isCommand = true ∧ after (exec .block (bench [0xC0])) (faultedAt 8 0) = true := by decide

/-- A BLOCK into an OBUF never written; a SCAN whose word is written and whose IBUF is not. -/
theorem test_witness_EveryCommandCompletes :
    { bench [0x04, 0xA9, 0x0B] with count := 3 }.inputWritten ∧ (∀ il, Instr.block ≠ .scan il) ∧
      { bench [0x04, 0xA9, 0x0B] with count := 3 }.obuf = [] ∧
      { bench [] with inLen := 5, count := 1, obuf := [(0, 9)] }.scanInputWritten ∧ Instr.isCommand (.scan false) = true :=
  ⟨by decide, fun _ h => (nomatch h), by decide, by decide, by decide⟩

/-- A memory that differs at IN_LEN alone. -/
theorem test_witness_BytesBeyondInLenNeverMatter :
    ∀ a, a < (bench [0xC0]).inLen.toNat → Memory.read [(0, 0xC0#8), (1, 0xFF#8)] a = (bench [0xC0]).ibuf.read a := by
  decide

theorem test_witness_ItemwiseAgreesWithAtomic :
    { bench [0x2A, 0x00] with count := 2, engine := .busy 0x18 0 none }.startRun 0x18 =
      some ⟨0, 0, [], 2, true, .seed⟩ := by decide

end Sys2Proof.Tests
end

/-! CONFIG (spec/10_state.md R34): its fields, and that no write and no reset changes it. -/

namespace Sys2Proof.Machine

/-- A field of a word laid out by appending is read back at the width of what stands below it. -/
theorem extractLsb'_append_field {k n l : Nat} (hi : BitVec k) (field : BitVec n) (lo : BitVec l) :
    (hi ++ field ++ lo).extractLsb' l n = field := by
  rw [BitVec.extractLsb'_append_eq_of_le le_rfl, Nat.sub_self, BitVec.extractLsb'_append_eq_right]

section ConfigWord

variable (s : State)

/-! ### The fields of CONFIG, from bit 0 up -/

/-- BS fits the 16 bits of CONFIG.BLOCK_SIZE (R8). -/
theorem Params.bs_lt_two_pow_16 (p : Params) : p.bs < 2 ^ 16 := by
  cases h : p.blockSize <;> simp [Params.bs, BlockSize.toNat, h]

/-- CONFIG.BLOCK_SIZE (R34). -/
theorem State.configWord_blockSize : (s.configWord.extractLsb' 0 16).toNat = s.params.bs := by
  have hfield : s.configWord.extractLsb' 0 16 = BitVec.ofNat 16 s.params.bs := BitVec.extractLsb'_append_eq_right
  rw [hfield, BitVec.toNat_ofNat, Nat.mod_eq_of_lt (Params.bs_lt_two_pow_16 s.params)]

/-- CONFIG.ID_WIDTH (R34). -/
theorem State.configWord_idWidth : s.configWord.extractLsb' 16 8 = 0x20 :=
  extractLsb'_append_field _ 32#8 _

/-- Above BLOCK_SIZE and ID_WIDTH stand CONTIG_MODE, VB_EMPTY_SELECTOR and the reserved bits (R34). -/
theorem State.configWord_extractLsb'_modes (start len : Nat) (h : 24 ≤ start) :
    s.configWord.extractLsb' start len =
      (0#5 ++ vbEmptyBits s.params.vbEmpty ++ contigModeBit s.params.contigMode).extractLsb' (start - 24) len := by
  unfold State.configWord
  rw [BitVec.extractLsb'_append_eq_of_le (by omega), BitVec.extractLsb'_append_eq_of_le (by omega), Nat.sub_sub]

/-- CONFIG.CONTIG_MODE (R34). -/
theorem State.configWord_contigMode : s.configWord.getLsbD 24 = decide (s.params.contigMode = .window32) := by
  have hfield : s.configWord.extractLsb' 24 1 = contigModeBit s.params.contigMode :=
    (s.configWord_extractLsb'_modes 24 1 le_rfl).trans BitVec.extractLsb'_append_eq_right
  have hbit : s.configWord.getLsbD 24 = (s.configWord.extractLsb' 24 1).getLsbD 0 := by simp
  rw [hbit, hfield]
  cases s.params.contigMode <;> rfl

/-- CONFIG.VB_EMPTY_SELECTOR (R34). -/
theorem State.configWord_vbEmpty : s.configWord.extractLsb' 25 2 = vbEmptyBits s.params.vbEmpty :=
  (s.configWord_extractLsb'_modes 25 2 (by decide)).trans (extractLsb'_append_field _ _ _)

/-- The reserved bits of CONFIG (R34). -/
theorem State.configWord_reserved : s.configWord.extractLsb' 27 5 = 0 := by
  rw [s.configWord_extractLsb'_modes 27 5 (by decide), BitVec.extractLsb'_append_eq_of_le (by decide)]
  exact BitVec.extractLsb'_append_eq_left

/-! ### What CONFIG depends on -/

/-- CONFIG is a function of the parameters alone. -/
theorem State.configWord_congr {s t : State} (h : s.params = t.params) : s.configWord = t.configWord := by
  simp only [State.configWord, h]

/-- CONFIG on the default engine (R34). -/
theorem State.configWord_default (hbs : s.params.blockSize = .bs128) (hmode : s.params.contigMode = .exact)
    (hvb : s.params.vbEmpty = .faultOnFf) : s.configWord = 0x00200080 := by
  simp only [State.configWord, Params.bs, hbs, hmode, hvb]
  rfl

/-- A write to a register that is neither CTRL nor one that BUSY guards, so a read-only or a reserved one, is ignored
in either phase (R33, R58, R234). -/
theorem State.writeReg_ignored (r : Reg) (v : Word) (hguard : r.guarded = false) (hctrl : r ≠ .ctrl) :
    s.writeReg r v = s := by
  have hidle : s.writeReg r v = s.writeRegIdle r v := by simp [State.writeReg, hguard]
  rw [hidle]
  cases r with
  | config | resultLo | resultHi | errOff | consumed | reserved => rfl
  | ctrl => exact absurd rfl hctrl
  | cmd | status | cur | inLen | count | outIdx | prev | bw => cases hguard

end ConfigWord

/-- Settles O14: each field is read off the word's layout, and the word is a function of the parameters, which both
resets keep. -/
theorem configRegister : Obligations.ConfigRegister := by
  intro s
  have hvb := s.configWord_vbEmpty
  refine ⟨s.configWord_blockSize, s.configWord_idWidth, s.configWord_contigMode, ?faultOnFf, ?noRead, ?consume,
    s.configWord_reserved, s.configWord_default, ?write, ?softReset, ?powerOn⟩
  case faultOnFf => intro h; rw [hvb, h]; rfl
  case noRead => intro h; rw [hvb, h]; rfl
  case consume => intro h; rw [hvb, h]; rfl
  case write => intro v; exact s.writeReg_ignored .config v rfl (by decide)
  case softReset => exact State.configWord_congr s.softReset_params
  case powerOn => exact State.configWord_congr s.powerOn_params

end Sys2Proof.Machine

/-! The scalar commands (spec/40_scalar.md): what their loads and decoders answer, form by form, and how LDLE, BASEVAL
and VB end. -/

namespace Sys2Proof.Machine

/-! ### Numbers of shifted, joined and masked words -/

/-- A shift to the left and an OR into the bits it freed add up. -/
theorem toNat_shiftLeft_or {hi lo : Word} {k : Nat} (hhi : hi.toNat * 2 ^ k < 2 ^ 32) (hlo : lo.toNat < 2 ^ k) :
    (hi <<< k ||| lo).toNat = hi.toNat * 2 ^ k + lo.toNat := by
  rw [BitVec.toNat_or, BitVec.toNat_shiftLeft, Nat.shiftLeft_eq, Nat.mod_eq_of_lt hhi, ← Nat.shiftLeft_eq,
    ← Nat.shiftLeft_add_eq_or_of_lt hlo]

/-- Appended bit fields, read as a number. -/
theorem toNat_append_eq_add {m n : Nat} (hi : BitVec m) (lo : BitVec n) :
    (hi ++ lo).toNat = hi.toNat * 2 ^ n + lo.toNat := by
  rw [BitVec.toNat_append, ← Nat.shiftLeft_add_eq_or_of_lt lo.isLt, Nat.shiftLeft_eq]

/-- A byte keeps its number in a word. -/
theorem toNat_setWidth_byte (x : Byte) : (x.setWidth 32).toNat = x.toNat :=
  BitVec.toNat_setWidth_of_le (by decide)

/-- The 1-byte baseval form holds the whole byte, whose top bit is clear (R132). -/
theorem basevalForm1_value (x : Byte) (hx : x.toNat < 128) : x.setWidth 32 = (x.extractLsb' 0 7).setWidth 32 := by
  apply BitVec.eq_of_toNat_eq
  rw [toNat_setWidth_byte, BitVec.toNat_setWidth_of_le (by decide), BitVec.extractLsb'_toNat, Nat.shiftRight_zero]
  omega

/-- The mask of the 2-byte baseval form keeps the first byte's low 6 bits (R132). -/
theorem basevalForm2_value (x b1 : Byte) :
    ((x.setWidth 32 <<< 8) ||| b1.setWidth 32) &&& 0x3FFF#32 = (x.extractLsb' 0 6 ++ b1).setWidth 32 := by
  have hx := x.isLt
  have hb1 := b1.isLt
  have hjoin : ((x.setWidth 32 <<< 8) ||| b1.setWidth 32 : Word).toNat = x.toNat * 2 ^ 8 + b1.toNat := by
    rw [toNat_shiftLeft_or] <;> simp only [toNat_setWidth_byte] <;> omega
  have hmask : (0x3FFF#32).toNat = 2 ^ 14 - 1 := rfl
  apply BitVec.eq_of_toNat_eq
  rw [BitVec.toNat_and, hmask, Nat.and_two_pow_sub_one_eq_mod, hjoin, BitVec.toNat_setWidth_of_le (by decide),
    toNat_append_eq_add, BitVec.extractLsb'_toNat, Nat.shiftRight_zero]
  omega

/-- The mask of the 3-byte baseval form keeps the first byte's low 5 bits (R132). -/
theorem basevalForm3_value (x b1 b2 : Byte) :
    ((x.setWidth 32 <<< 16) ||| (b2.setWidth 32 <<< 8) ||| b1.setWidth 32) &&& 0x1FFFFF#32 =
      (x.extractLsb' 0 5 ++ b2 ++ b1).setWidth 32 := by
  have hx := x.isLt
  have hb1 := b1.isLt
  have hb2 := b2.isLt
  have hlow : ((b2.setWidth 32 <<< 8) ||| b1.setWidth 32 : Word).toNat = b2.toNat * 2 ^ 8 + b1.toNat := by
    rw [toNat_shiftLeft_or] <;> simp only [toNat_setWidth_byte] <;> omega
  have hjoin : ((x.setWidth 32 <<< 16) ||| ((b2.setWidth 32 <<< 8) ||| b1.setWidth 32) : Word).toNat =
      x.toNat * 2 ^ 16 + (b2.toNat * 2 ^ 8 + b1.toNat) := by
    rw [toNat_shiftLeft_or] <;> simp only [toNat_setWidth_byte, hlow] <;> omega
  have hmask : (0x1FFFFF#32).toNat = 2 ^ 21 - 1 := rfl
  apply BitVec.eq_of_toNat_eq
  rw [BitVec.toNat_and, hmask, Nat.and_two_pow_sub_one_eq_mod, BitVec.or_assoc, hjoin,
    BitVec.toNat_setWidth_of_le (by decide), toNat_append_eq_add, toNat_append_eq_add, BitVec.extractLsb'_toNat,
    Nat.shiftRight_zero]
  omega

/-- The value of the 2-byte vb form (R134), its first byte in range. -/
theorem vbForm2_value (x b1 : Byte) (hlo : 177 ≤ x.toNat) :
    (((x.setWidth 32 - 177) <<< 8) ||| b1.setWidth 32) + 177 =
      BitVec.ofNat 32 ((x.toNat - 177) * 256 + b1.toNat + 177) := by
  have hx := x.isLt
  have hb1 := b1.isLt
  have hsub : (x.setWidth 32 - 177 : Word).toNat = x.toNat - 177 :=
    BitVec.toNat_sub_of_le (by rw [BitVec.le_def, toNat_setWidth_byte]; exact hlo)
  have hjoin : (((x.setWidth 32 - 177) <<< 8) ||| b1.setWidth 32 : Word).toNat =
      (x.toNat - 177) * 2 ^ 8 + b1.toNat := by
    rw [toNat_shiftLeft_or] <;> simp only [toNat_setWidth_byte, hsub] <;> omega
  apply BitVec.eq_of_toNat_eq
  rw [BitVec.toNat_add, hjoin, BitVec.toNat_ofNat]
  rfl

/-- The value of the 3-byte vb form (R134), its first byte in range and `v` the number of the 2 bytes after it. -/
theorem vbForm3_value (x : Byte) (v : Nat) (hlo : 241 ≤ x.toNat) (hv : v < 2 ^ 16) :
    (((x.setWidth 32 - 241) <<< 16) ||| BitVec.ofNat 32 v) + 16561 =
      BitVec.ofNat 32 ((x.toNat - 241) * 65536 + v + 16561) := by
  have hx := x.isLt
  have hsub : (x.setWidth 32 - 241 : Word).toNat = x.toNat - 241 :=
    BitVec.toNat_sub_of_le (by rw [BitVec.le_def, toNat_setWidth_byte]; exact hlo)
  have hlow : (BitVec.ofNat 32 v).toNat = v := by rw [BitVec.toNat_ofNat]; omega
  have hjoin : (((x.setWidth 32 - 241) <<< 16) ||| BitVec.ofNat 32 v : Word).toNat =
      (x.toNat - 241) * 2 ^ 16 + v := by
    rw [toNat_shiftLeft_or] <;> simp only [hsub, hlow] <;> omega
  apply BitVec.eq_of_toNat_eq
  rw [BitVec.toNat_add, hjoin, BitVec.toNat_ofNat]
  rfl

/-! ### Stream bytes in the scalar formats: which bytes decode to a form, and with what payload (R110, R111) -/

@[simp] theorem decode_basevalByte (x : Byte) : decode .basevalByte (x.setWidth 32) = decodeBasevalByte x := by
  simp [decode, decodeByte]

@[simp] theorem decode_vbByte (x : Byte) : decode .vbByte (x.setWidth 32) = decodeVbByte x := by
  simp [decode, decodeByte]

theorem decodeBasevalByte_eq_baseval1 (x : Byte) (v : BitVec 7) :
    decodeBasevalByte x = .baseval1 v ↔ x.toNat < 128 ∧ x.extractLsb' 0 7 = v := by
  unfold decodeBasevalByte; split_ifs <;> grind

theorem decodeBasevalByte_eq_baseval2 (x : Byte) (v : BitVec 6) :
    decodeBasevalByte x = .baseval2 v ↔ 128 ≤ x.toNat ∧ x.toNat < 192 ∧ x.extractLsb' 0 6 = v := by
  unfold decodeBasevalByte; split_ifs <;> grind

theorem decodeBasevalByte_eq_baseval3 (x : Byte) (v : BitVec 5) :
    decodeBasevalByte x = .baseval3 v ↔ 192 ≤ x.toNat ∧ x.toNat < 224 ∧ x.extractLsb' 0 5 = v := by
  unfold decodeBasevalByte; split_ifs <;> grind

theorem decodeVbByte_eq_vb1 (x y : Byte) : decodeVbByte x = .vb1 y ↔ x.toNat ≤ 176 ∧ x = y := by
  unfold decodeVbByte; split_ifs <;> grind

theorem decodeVbByte_eq_vb2 (x y : Byte) : decodeVbByte x = .vb2 y ↔ 177 ≤ x.toNat ∧ x.toNat ≤ 240 ∧ x = y := by
  unfold decodeVbByte; split_ifs <;> grind

theorem decodeVbByte_eq_vb3 (x y : Byte) : decodeVbByte x = .vb3 y ↔ 241 ≤ x.toNat ∧ x.toNat ≤ 248 ∧ x = y := by
  unfold decodeVbByte; split_ifs <;> grind

theorem decodeVbByte_eq_vb4 (x : Byte) : decodeVbByte x = .vb4 ↔ x.toNat = 249 := by
  unfold decodeVbByte; split_ifs <;> grind

theorem decodeVbByte_eq_vb5 (x : Byte) : decodeVbByte x = .vb5 ↔ x.toNat = 250 := by
  unfold decodeVbByte; split_ifs <;> grind

/-! ### Loads -/

/-- A byte of what IBUF holds. -/
theorem State.byteAt_of_holds {s : State} {a k : Nat} {xs : List Byte} {x : Byte} (h : s.holds a xs)
    (hx : xs[k]? = some x) : s.byteAt (a + k) = .ok x := by
  obtain ⟨-, hread⟩ := h
  rw [s.byteAt_ok, hread k (List.getElem?_eq_some_iff.1 hx).1, hx]

/-- `MemRead` of what IBUF holds (R130). -/
theorem State.memRead_of_holds {s : State} {a : Nat} {xs : List Byte} (h : s.holds a xs) :
    s.memRead a xs.length = .ok (leNat xs) :=
  (s.memRead_ok a _ _).2 ⟨.inr h.1, s.region_of_holds a xs h⟩

section Decoders

variable (s : State)

/-- A failed `Need` ends the pseudocode with TRUNCATED (R12). -/
theorem State.need_bind_truncated {α : Type} {c n : Nat} (f : Unit → Res α) (hn : n ≠ 0)
    (hshort : s.inLen.toNat < c + n) : s.need c n >>= f = .error (.engine .truncated c) :=
  (Res.bind_eq_error _ _ _).2 (.inl ((s.need_error c n _).2 ⟨⟨hn, hshort⟩, rfl⟩))

/-- A `Need` that is met goes on (R12). -/
theorem State.need_bind_of_le {α : Type} {c n : Nat} (f : Unit → Res α) (hfit : c + n ≤ s.inLen.toNat) :
    s.need c n >>= f = f () := by
  rw [(s.need_ok c n ()).2 (.inr hfit), Res.bind_ok]

/-! ### DecodeBaseval (R132) -/

theorem State.decodeBaseval_of_inLen_le {c : Nat} (hend : s.inLen.toNat ≤ c) :
    s.decodeBaseval c = .error (.engine .truncated c) :=
  s.need_bind_truncated _ one_ne_zero (by omega)

/-- With its first byte at hand, `DecodeBaseval` selects the form by that byte's range. -/
theorem State.decodeBaseval_of_byte {c : Nat} {x : Byte} (hc : c < s.inLen.toNat) (hx : s.ibuf.read c = some x) :
    s.decodeBaseval c =
      if x.toNat < 128 then .ok (basevalForm1 x)
      else if x.toNat < 192 then s.basevalForm2 c x
      else if x.toNat < 224 then s.basevalForm3 c x
      else raise .basevalRsv c := by
  rw [State.decodeBaseval, s.need_bind_of_le _ (by omega), (s.byteAt_ok c x).2 hx, Res.bind_ok]

theorem State.decodeBaseval_reserved {c : Nat} {x : Byte} (hc : c < s.inLen.toNat) (hx : s.ibuf.read c = some x)
    (hrsv : 224 ≤ x.toNat) : s.decodeBaseval c = .error (.engine .basevalRsv c) := by
  rw [s.decodeBaseval_of_byte hc hx, if_neg (by omega), if_neg (by omega), if_neg (by omega)]
  rfl

/-- Each longer form asks for all its bytes before it reads them. -/
theorem State.decodeBaseval_truncated {c len : Nat} {x : Byte} (hc : c < s.inLen.toNat) (hx : s.ibuf.read c = some x)
    (hlen : (128 ≤ x.toNat ∧ x.toNat < 192 ∧ len = 2) ∨ (192 ≤ x.toNat ∧ x.toNat < 224 ∧ len = 3))
    (hshort : s.inLen.toNat < c + len) : s.decodeBaseval c = .error (.engine .truncated c) := by
  rw [s.decodeBaseval_of_byte hc hx]
  obtain ⟨hlo, hhi, rfl⟩ | ⟨hlo, hhi, rfl⟩ := hlen
  · rw [if_neg (by omega), if_pos hhi]
    exact s.need_bind_truncated _ two_ne_zero hshort
  · rw [if_neg (by omega), if_neg (by omega), if_pos hhi]
    exact s.need_bind_truncated _ three_ne_zero hshort

theorem State.basevalForm2_of_holds {c : Nat} {x b1 : Byte} (h : s.holds (c + 1) [b1]) :
    s.basevalForm2 c x = .ok ((x.extractLsb' 0 6 ++ b1).setWidth 32, 2) := by
  have hfit : c + 2 ≤ s.inLen.toNat := h.1
  have hb1 : s.byteAt (c + 1) = .ok b1 := State.byteAt_of_holds (k := 0) h rfl
  rw [State.basevalForm2, s.need_bind_of_le _ hfit, hb1, Res.bind_ok, basevalForm2_value]

theorem State.basevalForm3_of_holds {c : Nat} {x b1 b2 : Byte} (h : s.holds (c + 1) [b1, b2]) :
    s.basevalForm3 c x = .ok ((x.extractLsb' 0 5 ++ b2 ++ b1).setWidth 32, 3) := by
  have hfit : c + 3 ≤ s.inLen.toNat := h.1
  have hb1 : s.byteAt (c + 1) = .ok b1 := State.byteAt_of_holds (k := 0) h rfl
  have hb2 : s.byteAt (c + 2) = .ok b2 := State.byteAt_of_holds (k := 1) h rfl
  rw [State.basevalForm3, s.need_bind_of_le _ hfit, hb2, Res.bind_ok, hb1, Res.bind_ok, basevalForm3_value]

/-- `DecodeBaseval` on the bytes of a form answers the form's value and its length. -/
theorem State.decodeBaseval_of_form {c : Nat} {x : Byte} {xs : List Byte} {v : Word} (hc : c < s.inLen.toNat)
    (hx : s.ibuf.read c = some x) (hform : basevalForm (decodeBasevalByte x) xs v) (hrest : s.regionHolds (c + 1) xs) :
    s.decodeBaseval c = .ok (v, xs.length + 1) := by
  rw [s.decodeBaseval_of_byte hc hx]
  obtain ⟨h, hi, rfl, rfl⟩ | ⟨h, b1, hi, rfl, rfl⟩ | ⟨h, b1, b2, hi, rfl, rfl⟩ := hform
  · obtain ⟨hlt, rfl⟩ := (decodeBasevalByte_eq_baseval1 x h).1 hi
    rw [if_pos hlt, basevalForm1, basevalForm1_value x hlt]
    rfl
  · obtain ⟨hlo, hhi, rfl⟩ := (decodeBasevalByte_eq_baseval2 x h).1 hi
    rw [if_neg (by omega), if_pos hhi]
    exact s.basevalForm2_of_holds (hrest.resolve_left (List.cons_ne_nil _ _))
  · obtain ⟨hlo, hhi, rfl⟩ := (decodeBasevalByte_eq_baseval3 x h).1 hi
    rw [if_neg (by omega), if_neg (by omega), if_pos hhi]
    exact s.basevalForm3_of_holds (hrest.resolve_left (List.cons_ne_nil _ _))

/-! ### DecodeVb (R134) -/

theorem State.decodeVb_of_inLen_le {c : Nat} (hend : s.inLen.toNat ≤ c) :
    s.decodeVb c = .error (.engine .truncated c) :=
  s.need_bind_truncated _ one_ne_zero (by omega)

/-- With its first byte at hand, `DecodeVb` selects the form by that byte's range. -/
theorem State.decodeVb_of_byte {c : Nat} {x : Byte} (hc : c < s.inLen.toNat) (hx : s.ibuf.read c = some x) :
    s.decodeVb c =
      if x.toNat ≤ 176 then .ok (vbForm1 x)
      else if x.toNat ≤ 240 then s.vbForm2 c x
      else if x.toNat ≤ 248 then s.vbForm3 c x
      else if x.toNat = 249 then s.vbForm4 c
      else if x.toNat = 250 then s.vbForm5 c
      else raise .vbRsv c := by
  rw [State.decodeVb, s.need_bind_of_le _ (by omega), (s.byteAt_ok c x).2 hx, Res.bind_ok]

theorem State.decodeVb_reserved {c : Nat} {x : Byte} (hc : c < s.inLen.toNat) (hx : s.ibuf.read c = some x)
    (hrsv : 251 ≤ x.toNat) : s.decodeVb c = .error (.engine .vbRsv c) := by
  rw [s.decodeVb_of_byte hc hx, if_neg (by omega), if_neg (by omega), if_neg (by omega), if_neg (by omega),
    if_neg (by omega)]
  rfl

/-- Each longer form asks for all its bytes before it reads them. -/
theorem State.decodeVb_truncated {c len : Nat} {x : Byte} (hc : c < s.inLen.toNat) (hx : s.ibuf.read c = some x)
    (hlen : (177 ≤ x.toNat ∧ x.toNat ≤ 240 ∧ len = 2) ∨ (241 ≤ x.toNat ∧ x.toNat ≤ 248 ∧ len = 3) ∨
      (x.toNat = 249 ∧ len = 4) ∨ (x.toNat = 250 ∧ len = 5)) (hshort : s.inLen.toNat < c + len) :
    s.decodeVb c = .error (.engine .truncated c) := by
  rw [s.decodeVb_of_byte hc hx]
  obtain ⟨hlo, hhi, rfl⟩ | ⟨hlo, hhi, rfl⟩ | ⟨hx4, rfl⟩ | ⟨hx5, rfl⟩ := hlen
  · rw [if_neg (by omega), if_pos hhi]
    exact s.need_bind_truncated _ (by decide) hshort
  · rw [if_neg (by omega), if_neg (by omega), if_pos hhi]
    exact s.need_bind_truncated _ (by decide) hshort
  · rw [if_neg (by omega), if_neg (by omega), if_neg (by omega), if_pos hx4]
    exact s.need_bind_truncated _ (by decide) hshort
  · rw [if_neg (by omega), if_neg (by omega), if_neg (by omega), if_neg (by omega), if_pos hx5]
    exact s.need_bind_truncated _ (by decide) hshort

theorem State.vbForm2_of_holds {c : Nat} {x b1 : Byte} (hlo : 177 ≤ x.toNat) (h : s.holds (c + 1) [b1]) :
    s.vbForm2 c x = .ok (BitVec.ofNat 32 ((x.toNat - 177) * 256 + b1.toNat + 177), 2) := by
  have hfit : c + 2 ≤ s.inLen.toNat := h.1
  have hb1 : s.byteAt (c + 1) = .ok b1 := State.byteAt_of_holds (k := 0) h rfl
  rw [State.vbForm2, s.need_bind_of_le _ hfit, hb1, Res.bind_ok, vbForm2_value x b1 hlo]

theorem State.vbForm3_of_holds {c : Nat} {x b1 b2 : Byte} (hlo : 241 ≤ x.toNat) (h : s.holds (c + 1) [b1, b2]) :
    s.vbForm3 c x = .ok (BitVec.ofNat 32 ((x.toNat - 241) * 65536 + b1.toNat + 256 * b2.toNat + 16561), 3) := by
  have hfit : c + 3 ≤ s.inLen.toNat := h.1
  have hload : s.memRead (c + 1) 2 = .ok (leNat [b1, b2]) := State.memRead_of_holds h
  have hnum : leNat [b1, b2] = b1.toNat + 256 * b2.toNat := by simp [leNat]
  have hlt : b1.toNat + 256 * b2.toNat < 2 ^ 16 := by omega
  rw [State.vbForm3, s.need_bind_of_le _ hfit, hload, Res.bind_ok, hnum, vbForm3_value x _ hlo hlt, ← Nat.add_assoc]

theorem State.vbForm4_of_holds {c : Nat} {xs : List Byte} (hlen : xs.length = 3) (h : s.holds (c + 1) xs) :
    s.vbForm4 c = .ok (BitVec.ofNat 32 (leNat xs), 4) := by
  have hfit : c + 1 + xs.length ≤ s.inLen.toNat := h.1
  rw [State.vbForm4, s.need_bind_of_le _ (by omega), ← hlen, State.memRead_of_holds h, Res.bind_ok]

theorem State.vbForm5_of_holds {c : Nat} {xs : List Byte} (hlen : xs.length = 4) (h : s.holds (c + 1) xs) :
    s.vbForm5 c = .ok (BitVec.ofNat 32 (leNat xs), 5) := by
  have hfit : c + 1 + xs.length ≤ s.inLen.toNat := h.1
  rw [State.vbForm5, s.need_bind_of_le _ (by omega), ← hlen, State.memRead_of_holds h, Res.bind_ok]

/-- `DecodeVb` on the bytes of a form answers the form's value and its length. -/
theorem State.decodeVb_of_form {c v : Nat} {x : Byte} {xs : List Byte} (hc : c < s.inLen.toNat)
    (hx : s.ibuf.read c = some x) (hform : vbForm (decodeVbByte x) xs v) (hrest : s.regionHolds (c + 1) xs) :
    s.decodeVb c = .ok (BitVec.ofNat 32 v, xs.length + 1) := by
  rw [s.decodeVb_of_byte hc hx]
  obtain ⟨y, hi, -, rfl, rfl⟩ | ⟨y, b1, hi, -, -, rfl, rfl⟩ | ⟨y, b1, b2, hi, -, -, rfl, rfl⟩ |
    ⟨b1, b2, b3, hi, rfl, rfl⟩ | ⟨b1, b2, b3, b4, hi, rfl, rfl⟩ := hform
  · obtain ⟨hle, rfl⟩ := (decodeVbByte_eq_vb1 x y).1 hi
    rw [if_pos hle, BitVec.ofNat_toNat]
    rfl
  · obtain ⟨hlo, hhi, rfl⟩ := (decodeVbByte_eq_vb2 x y).1 hi
    rw [if_neg (by omega), if_pos hhi]
    exact s.vbForm2_of_holds hlo (hrest.resolve_left (List.cons_ne_nil _ _))
  · obtain ⟨hlo, hhi, rfl⟩ := (decodeVbByte_eq_vb3 x y).1 hi
    rw [if_neg (by omega), if_neg (by omega), if_pos hhi]
    exact s.vbForm3_of_holds hlo (hrest.resolve_left (List.cons_ne_nil _ _))
  · have hx4 := (decodeVbByte_eq_vb4 x).1 hi
    have hnum : leNat [b1, b2, b3] = b1.toNat + 2 ^ 8 * b2.toNat + 2 ^ 16 * b3.toNat := by simp only [leNat]; omega
    rw [if_neg (by omega), if_neg (by omega), if_neg (by omega), if_pos hx4, ← hnum]
    exact s.vbForm4_of_holds rfl (hrest.resolve_left (List.cons_ne_nil _ _))
  · have hx5 := (decodeVbByte_eq_vb5 x).1 hi
    have hnum : leNat [b1, b2, b3, b4] =
        b1.toNat + 2 ^ 8 * b2.toNat + 2 ^ 16 * b3.toNat + 2 ^ 24 * b4.toNat := by simp only [leNat]; omega
    rw [if_neg (by omega), if_neg (by omega), if_neg (by omega), if_neg (by omega), if_pos hx5, ← hnum]
    exact s.vbForm5_of_holds rfl (hrest.resolve_left (List.cons_ne_nil _ _))

end Decoders

section Commands

variable (s : State)

/-! ### How a command ends -/

/-- A fault raised at CUR by a command with an empty write set (R228, R229). -/
theorem State.finish_fault_at_cur {code : FaultCode} {r : Res State} (h : r = .error (.engine code s.cur.toNat)) :
    s.finish 0 r = .next (s.faulted code s.cur) := by
  have hentry : s.faultEntry code s.cur.toNat 0 = s.faulted code s.cur := by
    rw [s.faultEntry_keeps code _ 0 (.inr rfl), BitVec.ofNat_toNat, BitVec.setWidth_eq]
  exact (s.finish_next 0 r _).2 (.inr ⟨code, s.cur.toNat, h, hentry.symm⟩)

/-- A command whose pseudocode ends completes with what it staged (R242). -/
theorem State.finish_completes {n : Nat} {r : Res State} {t : State} (h : r = .ok t) :
    s.finish n r = .next t.complete :=
  (s.finish_next n r _).2 (.inl ⟨t, h, rfl⟩)

/-- The prologue met, a command goes on (R241). -/
theorem State.checkInLen_bind_of_le {α : Type} (f : Unit → Res α) (hcap : s.inLen.toNat ≤ s.params.inCap) :
    s.checkInLen >>= f = f () := by
  rw [(s.checkInLen_ok ()).2 hcap, Res.bind_ok]

/-! ### LDLE (R131) -/

theorem exec_ldle (il : Bool) : exec (.ldle il) s = s.finish 0 s.ldle := rfl

/-- LDLE past its prologue. -/
theorem State.ldle_of_inLen_le (hcap : s.inLen.toNat ≤ s.params.inCap) :
    s.ldle =
      if s.bw.toNat ∈ [1, 2, 4, 8] then
        s.memRead s.cur.toNat s.bw.toNat >>= fun v => .ok { s with
          resultLo := BitVec.ofNat 32 v
          resultHi := BitVec.ofNat 32 (v / 2 ^ 32)
          consumed := 0 }
      else raise .badParam s.cur.toNat := by
  rw [State.ldle, s.checkInLen_bind_of_le _ hcap]

/-! ### BASEVAL and VB (R133, R135) -/

/-- The pseudocode BASEVAL and VB share, `d` being what their decoder answers. -/
def State.scalarResult (s : State) (d : Res (Word × Nat)) : Res State := do
  s.checkInLen
  let p ← d
  .ok (s.commitScalar p.1 p.2)

theorem exec_baseval (il : Bool) :
    exec (.baseval il) s = s.finish 0 (s.scalarResult (s.decodeBaseval s.cur.toNat)) := rfl

theorem exec_vb (il : Bool) : exec (.vb il) s = s.finish 0 (s.scalarResult (s.decodeVb s.cur.toNat)) := rfl

variable {s}

/-- A decoder's fault at CUR is the command's. -/
theorem State.finish_scalarResult_fault {d : Res (Word × Nat)} {code : FaultCode}
    (hcap : s.inLen.toNat ≤ s.params.inCap) (hd : d = .error (.engine code s.cur.toNat)) :
    s.finish 0 (s.scalarResult d) = .next (s.faulted code s.cur) := by
  apply State.finish_fault_at_cur
  rw [State.scalarResult, s.checkInLen_bind_of_le _ hcap, hd, Res.bind_error]

/-- A decoded scalar goes to RESULT, and CUR and CONSUMED move by its length. -/
theorem State.finish_scalarResult_ok {d : Res (Word × Nat)} {v : Word} {len : Nat}
    (hcap : s.inLen.toNat ≤ s.params.inCap) (hd : d = .ok (v, len)) :
    s.finish 0 (s.scalarResult d) = .next (s.commitScalar v len).complete := by
  apply State.finish_completes
  rw [State.scalarResult, s.checkInLen_bind_of_le _ hcap, hd, Res.bind_ok]

end Commands

/-! ### The obligations -/

/-- Settles O21: the width selects the branch, and the load's `Need` or its bytes decide the rest. -/
theorem ldleResult : Obligations.LdleResult := by
  refine ⟨fun il => by cases il <;> rfl, fun il s hcap => ?_⟩
  rw [exec_ldle]
  have hldle := s.ldle_of_inLen_le hcap
  refine ⟨fun hbw => ?badParam, fun hbw hshort => ?truncated, fun xs hbw hlen hholds => ?loads⟩
  case badParam =>
    rw [if_neg hbw] at hldle
    exact s.finish_fault_at_cur hldle
  case truncated =>
    have hne : s.bw.toNat ≠ 0 := fun h0 => absurd (h0 ▸ hbw) (by decide)
    have hload : s.memRead s.cur.toNat s.bw.toNat = .error (.engine .truncated s.cur.toNat) :=
      s.need_bind_truncated _ hne hshort
    rw [if_pos hbw, hload] at hldle
    exact s.finish_fault_at_cur hldle
  case loads =>
    rw [if_pos hbw, ← hlen, State.memRead_of_holds hholds] at hldle
    exact s.finish_completes hldle

/-- Settles O22: each clause is a clause of `DecodeBaseval`, carried through the command's end. -/
theorem basevalResult : Obligations.BasevalResult := by
  refine ⟨fun il => by cases il <;> rfl, fun il s hcap => ?_⟩
  rw [exec_baseval]
  refine ⟨fun hend => ?noByte, fun x hc hx => ⟨fun hrsv => ?reserved, fun hlo hhi hshort => ?truncated2,
    fun hlo hhi hshort => ?truncated3, fun xs v hform hrest => ?decodes⟩⟩
  case noByte => exact State.finish_scalarResult_fault hcap (s.decodeBaseval_of_inLen_le hend)
  case reserved => exact State.finish_scalarResult_fault hcap (s.decodeBaseval_reserved hc hx hrsv)
  case truncated2 =>
    exact State.finish_scalarResult_fault hcap (s.decodeBaseval_truncated hc hx (.inl ⟨hlo, hhi, rfl⟩) hshort)
  case truncated3 =>
    exact State.finish_scalarResult_fault hcap (s.decodeBaseval_truncated hc hx (.inr ⟨hlo, hhi, rfl⟩) hshort)
  case decodes =>
    rw [decode_basevalByte] at hform
    exact State.finish_scalarResult_ok hcap (s.decodeBaseval_of_form hc hx hform hrest)

/-- Settles O23: each clause is a clause of `DecodeVb`, carried through the command's end. -/
theorem vbResult : Obligations.VbResult := by
  refine ⟨fun il => by cases il <;> rfl, fun il s hcap => ?_⟩
  rw [exec_vb]
  refine ⟨fun hend => ?noByte, fun x hc hx => ⟨fun hrsv => ?reserved, fun len hlen hshort => ?truncated,
    fun xs v hform hrest => ?decodes⟩⟩
  case noByte => exact State.finish_scalarResult_fault hcap (s.decodeVb_of_inLen_le hend)
  case reserved => exact State.finish_scalarResult_fault hcap (s.decodeVb_reserved hc hx hrsv)
  case truncated => exact State.finish_scalarResult_fault hcap (s.decodeVb_truncated hc hx hlen hshort)
  case decodes =>
    rw [decode_vbByte] at hform
    exact State.finish_scalarResult_ok hcap (s.decodeVb_of_form hc hx hform hrest)

end Sys2Proof.Machine

/-! The bit unpackers (spec/41_bitunpack.md): what the part UNPACK and UNPACK_IL share can do, and how the two end. -/

namespace Sys2Proof.Machine

section Unpackers

variable {s : State}

/-! ### Packed regions, empty ones among them (R12) -/

/-- The `Need` of a region at hand goes on; an empty region needs nothing. -/
theorem State.need_of_regionHolds {a : Nat} {xs : List Byte} (h : s.regionHolds a xs) :
    s.need a xs.length = .ok () := by
  rw [State.need_ok]
  obtain rfl | ⟨hfit, -⟩ := h
  · exact .inl rfl
  · exact .inr hfit

/-- A region at hand is read as its number; an empty region reads nothing. -/
theorem State.region_of_regionHolds {a : Nat} {xs : List Byte} (h : s.regionHolds a xs) :
    s.region a xs.length = .ok (leNat xs) := by
  obtain rfl | hholds := h
  · rfl
  · exact s.region_of_holds a xs hholds

/-- `Gaps` of a packed region at hand. -/
theorem State.gaps_of_regionHolds {a n b : Nat} {il : Bool} {xs : List Byte}
    (hlen : xs.length = packedSize s.params.bs n b il) (h : s.regionHolds a xs) :
    s.gaps a n b il = .ok (unpackFields s.params (leNat xs) n b il) :=
  (s.gaps_ok a n b il _).2 ⟨leNat xs, hlen ▸ State.region_of_regionHolds h, rfl⟩

/-! ### How a command with a write set faults -/

/-- An engine fault of the pseudocode is the command's (R227). -/
theorem State.finish_faults {code : FaultCode} {off n : Nat} {r : Res State} (h : r = .error (.engine code off)) :
    s.finish n r = .next (s.faultEntry code off n) :=
  (s.finish_next n r _).2 (.inr ⟨code, off, h, rfl⟩)

/-- A fault raised at CUR before the command touches OBUF, which keeps it whatever its write set is (R229). -/
theorem State.finish_fault_at_cur_keeps {code : FaultCode} {n : Nat} {r : Res State} (hkeep : code.keepsObuf = true)
    (h : r = .error (.engine code s.cur.toNat)) : s.finish n r = .next (s.faulted code s.cur) := by
  rw [State.finish_faults h, s.faultEntry_keeps code _ n (.inl hkeep), BitVec.ofNat_toNat, BitVec.setWidth_eq]

/-! ### The part UNPACK and UNPACK_IL share (R158, R159) -/

/-- The output range is checked before the region's bytes. -/
theorem State.unpackInto_outRange {n : Nat} {il : Bool} (hout : s.params.outCap < s.outIdx.toNat + n) :
    s.unpackInto n il = .error (.engine .outRange s.cur.toNat) := by
  rw [State.unpackInto, (s.checkOut_error n _).2 ⟨hout, rfl⟩, Res.bind_error]

/-- With room for its output, the unpacker goes on to the region's `Need`. -/
theorem State.unpackInto_of_fits {n : Nat} {il : Bool} (hout : s.outIdx.toNat + n ≤ s.params.outCap) :
    s.unpackInto n il =
      s.need s.cur.toNat (packedSize s.params.bs n s.bw.toNat il) >>= fun _ =>
        s.gaps s.cur.toNat n s.bw.toNat il >>= fun g =>
          .ok (s.commitFields g n (packedSize s.params.bs n s.bw.toNat il)) := by
  rw [State.unpackInto, (s.checkOut_ok n ()).2 hout, Res.bind_ok]

theorem State.unpackInto_truncated {n : Nat} {il : Bool} (hout : s.outIdx.toNat + n ≤ s.params.outCap)
    (hne : packedSize s.params.bs n s.bw.toNat il ≠ 0)
    (hshort : s.inLen.toNat < s.cur.toNat + packedSize s.params.bs n s.bw.toNat il) :
    s.unpackInto n il = .error (.engine .truncated s.cur.toNat) := by
  rw [State.unpackInto_of_fits hout, s.need_bind_truncated _ hne hshort]

/-- With room for its output and its region at hand, the unpacker stages the region's fields. -/
theorem State.unpackInto_of_regionHolds {n : Nat} {il : Bool} {xs : List Byte}
    (hout : s.outIdx.toNat + n ≤ s.params.outCap) (hlen : xs.length = packedSize s.params.bs n s.bw.toNat il)
    (h : s.regionHolds s.cur.toNat xs) :
    s.unpackInto n il =
      .ok (s.commitFields (unpackFields s.params (leNat xs) n s.bw.toNat il) n
        (packedSize s.params.bs n s.bw.toNat il)) := by
  rw [State.unpackInto_of_fits hout, State.gaps_of_regionHolds hlen h, ← hlen,
    State.need_of_regionHolds h, Res.bind_ok, Res.bind_ok]

/-! ### UNPACK and UNPACK_IL past their prologue (R241) -/

theorem exec_unpack (il : Bool) : exec (.unpack il) s = s.finish s.count.toNat s.unpack := rfl

theorem exec_unpackIl (il : Bool) : exec (.unpackIl il) s = s.finish s.params.bs s.unpackIl := rfl

theorem State.unpack_badParam (hcap : s.inLen.toNat ≤ s.params.inCap) (hbw : 32 < s.bw.toNat) :
    s.unpack = .error (.engine .badParam s.cur.toNat) := by
  rw [State.unpack, s.checkInLen_bind_of_le _ hcap, if_pos hbw]
  rfl

theorem State.unpack_eq_unpackInto (hcap : s.inLen.toNat ≤ s.params.inCap) (hbw : s.bw.toNat ≤ 32) :
    s.unpack = s.unpackInto s.count.toNat false := by
  rw [State.unpack, s.checkInLen_bind_of_le _ hcap, if_neg (Nat.not_lt.2 hbw)]

/-- A partial block and a width above 32 are the same fault (R159). -/
theorem State.unpackIl_badParam (hcap : s.inLen.toNat ≤ s.params.inCap)
    (hparam : s.count.toNat ≠ s.params.bs ∨ 32 < s.bw.toNat) :
    s.unpackIl = .error (.engine .badParam s.cur.toNat) := by
  rw [State.unpackIl, s.checkInLen_bind_of_le _ hcap]
  by_cases hcount : s.count.toNat = s.params.bs
  · rw [if_neg (not_not.2 hcount), if_pos (hparam.resolve_left (not_not.2 hcount))]
    rfl
  · rw [if_pos hcount]
    rfl

theorem State.unpackIl_eq_unpackInto (hcap : s.inLen.toNat ≤ s.params.inCap) (hcount : s.count.toNat = s.params.bs)
    (hbw : s.bw.toNat ≤ 32) : s.unpackIl = s.unpackInto s.params.bs true := by
  rw [State.unpackIl, s.checkInLen_bind_of_le _ hcap, if_neg (not_not.2 hcount), if_neg (Nat.not_lt.2 hbw)]

end Unpackers

/-! ### The obligations -/

/-- Settles O24: the width decides whether UNPACK goes on to the shared part, and the room for the output, then the
region's bytes, decide how that ends. -/
theorem unpackResult : Obligations.UnpackResult := by
  refine ⟨fun il => by cases il <;> rfl, fun il s size hcap hsize => ?_⟩
  subst hsize
  rw [exec_unpack]
  refine ⟨fun hbw => ?badParam, fun hbw hout => ?outRange, fun hbw hout hne hshort => ?truncated,
    fun xs hbw hout hlen hregion => ?unpacks⟩
  case badParam => exact State.finish_fault_at_cur_keeps rfl (State.unpack_badParam hcap hbw)
  case outRange =>
    rw [State.unpack_eq_unpackInto hcap hbw]
    exact State.finish_fault_at_cur_keeps rfl (State.unpackInto_outRange hout)
  case truncated =>
    rw [State.unpack_eq_unpackInto hcap hbw]
    exact State.finish_faults (State.unpackInto_truncated hout hne hshort)
  case unpacks =>
    rw [State.unpack_eq_unpackInto hcap hbw]
    exact s.finish_completes (State.unpackInto_of_regionHolds hout hlen hregion)

/-- Settles O25: as UNPACK, with a full block asked for first, and the fields taken from the lanes. -/
theorem unpackIlResult : Obligations.UnpackIlResult := by
  refine ⟨fun il => by cases il <;> rfl, fun il s size hcap hsize => ?_⟩
  subst hsize
  rw [exec_unpackIl]
  refine ⟨fun hparam => ?badParam, fun hcount hbw hout => ?outRange, fun hcount hbw hout hne hshort => ?truncated,
    fun xs hcount hbw hout hlen hregion => ?unpacks⟩
  case badParam => exact State.finish_fault_at_cur_keeps rfl (State.unpackIl_badParam hcap hparam)
  case outRange =>
    rw [State.unpackIl_eq_unpackInto hcap hcount hbw]
    exact State.finish_fault_at_cur_keeps rfl (State.unpackInto_outRange hout)
  case truncated =>
    rw [State.unpackIl_eq_unpackInto hcap hcount hbw]
    exact State.finish_faults (State.unpackInto_truncated hout hne hshort)
  case unpacks =>
    rw [State.unpackIl_eq_unpackInto hcap hcount hbw]
    exact s.finish_completes (State.unpackInto_of_regionHolds hout hlen hregion)

end Sys2Proof.Machine

/-! Blocks (spec/42_blocks.md): what each block decoder answers once its bytes are at hand, and how BLOCK ends. -/

namespace Sys2Proof.Machine

section Blocks

variable {s : State}

/-! ### Consecutive bytes of IBUF -/

/-- What IBUF holds, cut in two. -/
theorem State.holds_append {a : Nat} {xs ys : List Byte} (h : s.holds a (xs ++ ys)) :
    s.holds a xs ∧ s.holds (a + xs.length) ys := by
  obtain ⟨hfit, hread⟩ := h
  rw [List.length_append] at hfit hread
  refine ⟨⟨by omega, fun k hk => ?_⟩, ⟨by omega, fun k hk => ?_⟩⟩
  · rw [hread k (by omega), List.getElem?_append_left hk]
  · rw [Nat.add_assoc, hread _ (by omega), List.getElem?_append_right (by omega), Nat.add_sub_cancel_left]

/-- What IBUF holds, its first byte cut off. -/
theorem State.holds_cons {a : Nat} {x : Byte} {xs : List Byte} (h : s.holds a (x :: xs)) :
    a < s.inLen.toNat ∧ s.ibuf.read a = some x ∧ s.holds (a + 1) xs := by
  obtain ⟨⟨hfit, hread⟩, hrest⟩ := State.holds_append (xs := [x]) h
  exact ⟨hfit, hread 0 Nat.one_pos, hrest⟩

/-- The `Need` of a region that is empty or ends by IN_LEN goes on (R12). -/
theorem State.need_bind_of_fits {α : Type} {a n : Nat} (f : Unit → Res α) (h : n = 0 ∨ a + n ≤ s.inLen.toNat) :
    s.need a n >>= f = f () := by
  rw [(s.need_ok a n ()).2 h, Res.bind_ok]

/-- A byte asked for and read: how a header, BEXC, NEXC or the exception area's first byte is taken. -/
theorem State.need_byte_bind {α : Type} {a : Nat} {x : Byte} (f : Byte → Res α) (ha : a < s.inLen.toNat)
    (hx : s.ibuf.read a = some x) : (s.need a 1 >>= fun _ => s.byteAt a >>= f) = f x := by
  rw [State.need_bind_of_fits _ (.inr ha), (s.byteAt_ok a x).2 hx, Res.bind_ok]

/-! ### CONSTANT and FOR (R173–R175) -/

theorem State.constantGaps_truncated {c num b : Nat} (hb : b ≠ 0) (hshort : s.inLen.toNat < c + 1 + ceilDiv b 8) :
    s.constantGaps c num b = .error (.engine .truncated (c + 1)) :=
  have hne : ceilDiv b 8 ≠ 0 := by unfold ceilDiv; omega
  s.need_bind_truncated _ hne hshort

theorem State.constantGaps_of_regionHolds {c num b : Nat} {xs : List Byte} (hlen : xs.length = ceilDiv b 8)
    (h : s.regionHolds (c + 1) xs) :
    s.constantGaps c num b =
      .ok (List.replicate num (BitVec.ofNat 32 (leNat xs % 2 ^ b)), c + 1 + xs.length) := by
  rw [s.constantGaps_ok, ← hlen]
  exact ⟨(s.need_ok _ _ ()).1 (State.need_of_regionHolds h), ⟨_, State.region_of_regionHolds h, rfl⟩, rfl⟩

theorem State.forGaps_truncated {c num b : Nat} {il : Bool} (hne : packedSize s.params.bs num b il ≠ 0)
    (hshort : s.inLen.toNat < c + 1 + packedSize s.params.bs num b il) :
    s.forGaps c num b il = .error (.engine .truncated (c + 1)) :=
  s.need_bind_truncated _ hne hshort

theorem State.forGaps_of_regionHolds {c num b : Nat} {il : Bool} {xs : List Byte}
    (hlen : xs.length = packedSize s.params.bs num b il) (h : s.regionHolds (c + 1) xs) :
    s.forGaps c num b il = .ok (unpackFields s.params (leNat xs) num b il, c + 1 + xs.length) := by
  rw [s.forGaps_ok, ← hlen]
  exact ⟨(s.need_ok _ _ ()).1 (State.need_of_regionHolds h), State.gaps_of_regionHolds hlen h, rfl⟩

/-! ### PFOR_BITMAP (R176, R177) -/

theorem State.pforBitmapGaps_of_inLen_le {c num b : Nat} {il : Bool} (hend : s.inLen.toNat ≤ c + 1) :
    s.pforBitmapGaps c num b il = .error (.engine .truncated (c + 1)) :=
  s.need_bind_truncated _ one_ne_zero (Nat.lt_succ_of_le hend)

/-- With its BEXC byte at hand, a PFOR_BITMAP block goes on to its bitmap where that width is legal. -/
theorem State.pforBitmapGaps_of_bexc {c num b : Nat} {il : Bool} {e : Byte} (hc : c + 1 < s.inLen.toNat)
    (he : s.ibuf.read (c + 1) = some e) :
    s.pforBitmapGaps c num b il =
      if 32 < e.toNat then raise .badWidth (c + 1) else s.pforBitmapBody c num b e.toNat il :=
  State.need_byte_bind _ hc he

theorem State.pforBitmapBody_truncated {c num b E nbm : Nat} {il : Bool}
    (hnbm : nbm = if il then s.params.bs / 8 else ceilDiv num 8) (hne : nbm ≠ 0)
    (hshort : s.inLen.toNat < c + 2 + nbm) :
    s.pforBitmapBody c num b E il = .error (.engine .truncated (c + 2)) := by
  subst hnbm
  exact s.need_bind_truncated _ hne hshort

/-- What a PFOR_BITMAP block with exceptions at `pos` does after its bitmap: the exception bits at `ce`, the base values
after them, and the one ORed into the other. -/
def State.bitmapPatch (s : State) (ce num b E : Nat) (il : Bool) (pos : List Nat) : Res (List Word × Nat) := do
  s.need ce (ceilDiv (pos.length * E) 8)
  s.need (ce + ceilDiv (pos.length * E) 8) (packedSize s.params.bs num b il)
  let g ← s.gaps (ce + ceilDiv (pos.length * E) 8) num b il
  let hs ← s.gaps ce pos.length E false
  .ok (orAll b g (pos.zip hs), ce + ceilDiv (pos.length * E) 8 + packedSize s.params.bs num b il)

/-- With its bitmap at hand, a PFOR_BITMAP block has its exceptions at the bitmap's set bits. -/
theorem State.pforBitmapBody_of_bitmap {c num b E : Nat} {il : Bool} {bm : List Byte}
    (hlen : bm.length = if il then s.params.bs / 8 else ceilDiv num 8) (h : s.regionHolds (c + 2) bm) :
    s.pforBitmapBody c num b E il =
      if (bitmapPositions (leNat bm) num).length ≠ 0 ∧ b = 32 then raise .excShift c
      else s.bitmapPatch (c + 2 + bm.length) num b E il (bitmapPositions (leNat bm) num) := by
  rw [State.pforBitmapBody, ← hlen, State.need_of_regionHolds h, Res.bind_ok, State.region_of_regionHolds h,
    Res.bind_ok]
  rfl

theorem State.bitmapPatch_exceptions_truncated {ce num b E ne : Nat} {il : Bool} {pos : List Nat}
    (hne : ne = ceilDiv (pos.length * E) 8) (hpos : ne ≠ 0) (hshort : s.inLen.toNat < ce + ne) :
    s.bitmapPatch ce num b E il pos = .error (.engine .truncated ce) := by
  subst hne
  exact s.need_bind_truncated _ hpos hshort

theorem State.bitmapPatch_base_truncated {ce num b E ne nb : Nat} {il : Bool} {pos : List Nat}
    (hne : ne = ceilDiv (pos.length * E) 8) (hfit : ne = 0 ∨ ce + ne ≤ s.inLen.toNat)
    (hnb : nb = packedSize s.params.bs num b il) (hpos : nb ≠ 0) (hshort : s.inLen.toNat < ce + ne + nb) :
    s.bitmapPatch ce num b E il pos = .error (.engine .truncated (ce + ne)) := by
  rw [State.bitmapPatch, ← hne, ← hnb, State.need_bind_of_fits _ hfit, s.need_bind_truncated _ hpos hshort]

theorem State.bitmapPatch_of_regionHolds {ce num b E : Nat} {il : Bool} {pos : List Nat} {eb bv : List Byte}
    (heb : eb.length = ceilDiv (pos.length * E) 8) (hbv : bv.length = packedSize s.params.bs num b il)
    (hexc : s.regionHolds ce eb) (hbase : s.regionHolds (ce + eb.length) bv) :
    s.bitmapPatch ce num b E il pos =
      .ok (orAll b (unpackFields s.params (leNat bv) num b il)
          (pos.zip (unpackFields s.params (leNat eb) pos.length E false)),
        ce + eb.length + bv.length) := by
  rw [State.bitmapPatch, ← heb, ← hbv, State.need_of_regionHolds hexc, Res.bind_ok, State.need_of_regionHolds hbase,
    Res.bind_ok, State.gaps_of_regionHolds hbv hbase, Res.bind_ok, State.gaps_of_regionHolds heb hexc, Res.bind_ok]

/-! ### The exception area (R180) -/

theorem leBytes_length (k v : Nat) : (leBytes k v).length = k := by
  induction k generalizing v with
  | zero => rfl
  | succ k ih => rw [leBytes, List.length_cons, ih]

/-- Little-endian bytes read back are the number they were made of, cut to their width. -/
theorem leNat_leBytes (k v : Nat) : leNat (leBytes k v) = v % 256 ^ k := by
  induction k generalizing v with
  | zero => rw [Nat.pow_zero, Nat.mod_one]; rfl
  | succ k ih => rw [leBytes, leNat, ih, BitVec.toNat_ofNat, pow_succ' 256 k, Nat.mod_mul]

/-- The four bytes of a word read back are the word. -/
theorem ofNat_leNat_leBytes_word (v : Word) : BitVec.ofNat 32 (leNat (leBytes 4 v.toNat)) = v := by
  have hlt : v.toNat < 256 ^ 4 := v.isLt
  rw [leNat_leBytes, Nat.mod_eq_of_lt hlt, BitVec.ofNat_toNat, BitVec.setWidth_eq]

theorem State.excArea_zero (e : Nat) : s.excArea e 0 = s.excEmpty e >>= fun e' => .ok ([], e') := rfl

theorem State.excEmpty_of_noRead_or_end {e : Nat} (h : s.params.vbEmpty = .noRead ∨ s.inLen.toNat ≤ e) :
    s.excEmpty e = .ok e := by
  unfold State.excEmpty
  cases hsel : s.params.vbEmpty with
  | noRead => rfl
  | faultOnFf | consume =>
    rw [hsel] at h
    exact if_neg (Nat.not_lt.2 (h.resolve_left (by decide)))

/-- A byte other than 0xFF does not belong to an empty area. -/
theorem State.excEmpty_of_byte_ne {e : Nat} {x : Byte} (he : e < s.inLen.toNat) (hx : s.ibuf.read e = some x)
    (hne : x ≠ 0xFF#8) : s.excEmpty e = .ok e := by
  unfold State.excEmpty
  cases s.params.vbEmpty with
  | noRead => rfl
  | faultOnFf | consume => simp only [if_pos he, (s.byteAt_ok e x).2 hx, Res.bind_ok, if_neg hne]

theorem State.excEmpty_faultOnFf {e : Nat} (he : e < s.inLen.toNat) (hx : s.ibuf.read e = some 0xFF#8)
    (hsel : s.params.vbEmpty = .faultOnFf) : s.excEmpty e = .error (.engine .vbEmptyAmbig e) := by
  simp only [State.excEmpty, hsel, if_pos he, (s.byteAt_ok e _).2 hx, Res.bind_ok]
  rfl

theorem State.excEmpty_consume {e : Nat} (he : e < s.inLen.toNat) (hx : s.ibuf.read e = some 0xFF#8)
    (hsel : s.params.vbEmpty = .consume) : s.excEmpty e = .ok (e + 1) := by
  simp only [State.excEmpty, hsel, if_pos he, (s.byteAt_ok e _).2 hx, Res.bind_ok]
  rfl

theorem State.excArea_of_inLen_le {e n : Nat} (hn : n ≠ 0) (hend : s.inLen.toNat ≤ e) :
    s.excArea e n = .error (.engine .truncated e) := by
  rw [State.excArea, if_neg hn, s.need_bind_truncated _ one_ne_zero (Nat.lt_succ_of_le hend)]

/-- With its first byte at hand, a non-empty area is in the escape form or in the vb form. -/
theorem State.excArea_of_byte {e n : Nat} {x : Byte} (hn : n ≠ 0) (he : e < s.inLen.toNat)
    (hx : s.ibuf.read e = some x) :
    s.excArea e n = if x = 0xFF#8 then s.escValues (e + 1) n else s.vbValues e n := by
  rw [State.excArea, if_neg hn]
  exact State.need_byte_bind _ he hx

/-- One escape value at hand is taken, and the others follow it. -/
theorem State.escValues_succ_of_holds {e n : Nat} {v : Word} (h : s.holds e (leBytes 4 v.toNat)) :
    s.escValues e (n + 1) = s.escValues (e + 4) n >>= fun p => .ok (v :: p.1, p.2) := by
  have hload := State.memRead_of_holds h
  rw [leBytes_length] at hload
  rw [State.escValues, hload, Res.bind_ok, ofNat_leNat_leBytes_word]

/-- The bytes of the first of several escape values, and of the others. -/
theorem State.holds_escValues_cons {e : Nat} {v : Word} {vs : List Word}
    (h : s.holds e ((v :: vs).flatMap fun v => leBytes 4 v.toNat)) :
    s.holds e (leBytes 4 v.toNat) ∧ s.holds (e + 4) (vs.flatMap fun v => leBytes 4 v.toNat) := by
  rw [List.flatMap_cons] at h
  simpa only [leBytes_length] using State.holds_append h

theorem State.escValues_of_holds {e : Nat} {vs : List Word}
    (h : s.holds e (vs.flatMap fun v => leBytes 4 v.toNat)) :
    s.escValues e vs.length = .ok (vs, e + 4 * vs.length) := by
  induction vs generalizing e with
  | nil => rfl
  | cons v vs ih =>
    obtain ⟨hv, hvs⟩ := State.holds_escValues_cons h
    rw [List.length_cons, State.escValues_succ_of_holds hv, ih hvs, Res.bind_ok]
    simp only [Nat.mul_add, Nat.add_assoc, Nat.add_comm 4]

/-- Escape values run out at the first one whose bytes reach past IN_LEN. -/
theorem State.escValues_truncated {e n : Nat} {vs : List Word} (hn : vs.length < n)
    (h : s.holds e (vs.flatMap fun v => leBytes 4 v.toNat)) (hshort : s.inLen.toNat < e + 4 * vs.length + 4) :
    s.escValues e n = .error (.engine .truncated (e + 4 * vs.length)) := by
  induction vs generalizing e n with
  | nil =>
    obtain ⟨n, rfl⟩ := Nat.exists_eq_add_one_of_ne_zero (Nat.ne_zero_of_lt hn)
    have hload : s.memRead e 4 = .error (.engine .truncated e) := s.need_bind_truncated _ (by decide) hshort
    rw [State.escValues, hload]
    rfl
  | cons v vs ih =>
    obtain ⟨hv, hvs⟩ := State.holds_escValues_cons h
    obtain ⟨n, rfl⟩ := Nat.exists_eq_add_one_of_ne_zero (Nat.ne_zero_of_lt hn)
    rw [List.length_cons] at hshort ⊢
    have hrest := ih (Nat.lt_of_succ_lt_succ hn) hvs (by omega)
    rw [State.escValues_succ_of_holds hv, hrest, Res.bind_error]
    simp only [Nat.mul_add, Nat.add_assoc, Nat.add_comm 4]

/-- An exception area has as many values as asked for, none where it is empty. -/
theorem State.excArea_length {e n e' : Nat} {xs : List Word} (h : s.excArea e n = .ok (xs, e')) : xs.length = n := by
  unfold State.excArea at h
  split at h
  · next hn =>
    obtain ⟨_, -, hxs⟩ := (Res.bind_eq_ok _ _ _).1 h
    cases hxs
    exact hn.symm
  · obtain ⟨_, -, hbyte⟩ := (Res.bind_eq_ok _ _ _).1 h
    obtain ⟨x, -, hvals⟩ := (Res.bind_eq_ok _ _ _).1 hbyte
    split at hvals
    · exact (s.escValues_length _ _ _ _ hvals).1
    · exact s.vbValues_length _ _ _ _ hvals

/-! ### PFOR_VB (R178, R179) -/

theorem State.pforVbGaps_of_inLen_le {c num b : Nat} {il : Bool} (hend : s.inLen.toNat ≤ c + 1) :
    s.pforVbGaps c num b il = .error (.engine .truncated (c + 1)) :=
  s.need_bind_truncated _ one_ne_zero (Nat.lt_succ_of_le hend)

/-- With its NEXC byte at hand, a PFOR_VB block goes on to its base values, its exception area and its index bytes. -/
theorem State.pforVbGaps_of_nexc {c num b : Nat} {il : Bool} {n : Byte} (hc : c + 1 < s.inLen.toNat)
    (hn : s.ibuf.read (c + 1) = some n) :
    s.pforVbGaps c num b il = s.pforVbBase c num b n.toNat il >>= fun base =>
      s.excArea base.2 n.toNat >>= fun exc => s.pforVbPatch num b base.1 exc.1 exc.2 :=
  State.need_byte_bind _ hc hn

theorem State.pforVbBase_excShift {c num n : Nat} {il : Bool} (hn : n ≠ 0) :
    s.pforVbBase c num 32 n il = .error (.engine .excShift c) := if_pos ⟨hn, rfl⟩

theorem State.pforVbBase_truncated {c num b n : Nat} {il : Bool} (hshift : ¬ (n ≠ 0 ∧ b = 32))
    (hne : packedSize s.params.bs num b il ≠ 0) (hshort : s.inLen.toNat < c + 2 + packedSize s.params.bs num b il) :
    s.pforVbBase c num b n il = .error (.engine .truncated (c + 2)) := by
  rw [State.pforVbBase, if_neg hshift, s.need_bind_truncated _ hne hshort]

theorem State.pforVbBase_of_regionHolds {c num b n : Nat} {il : Bool} {bv : List Byte}
    (hshift : ¬ (n ≠ 0 ∧ b = 32)) (hlen : bv.length = packedSize s.params.bs num b il) (h : s.regionHolds (c + 2) bv) :
    s.pforVbBase c num b n il = .ok (unpackFields s.params (leNat bv) num b il, c + 2 + bv.length) := by
  rw [s.pforVbBase_ok, ← hlen]
  exact ⟨hshift, (s.need_ok _ _ ()).1 (State.need_of_regionHolds h), State.gaps_of_regionHolds hlen h, rfl⟩

/-- One turn of the index loop, its index byte at hand. -/
theorem State.patchFrom_cons {num b e : Nat} {g xs : List Word} {x : Word} {i : Byte} (hi : s.ibuf.read e = some i) :
    s.patchFrom num b g e (x :: xs) =
      if num ≤ i.toNat then raise .excIndex e else s.patchFrom num b (orAt g i.toNat (x <<< b)) (e + 1) xs := by
  rw [State.patchFrom, (s.byteAt_ok e i).2 hi, Res.bind_ok]

/-- The index loop, no index out of range: each exception is ORed in at its index. -/
theorem State.patchFrom_of_lt {num b e : Nat} {g xs : List Word} {ix : List Byte} (hlen : ix.length = xs.length)
    (h : s.regionHolds e ix) (hlt : ∀ i ∈ ix, i.toNat < num) :
    s.patchFrom num b g e xs = .ok (orAll b g ((ix.map BitVec.toNat).zip xs), e + xs.length) := by
  induction ix generalizing e g xs with
  | nil =>
    obtain rfl := List.length_eq_zero_iff.1 hlen.symm
    rfl
  | cons i ix ih =>
    obtain ⟨x, xs, rfl⟩ := List.exists_cons_of_length_eq_add_one hlen.symm
    obtain ⟨-, hi, hix⟩ := State.holds_cons (h.resolve_left (List.cons_ne_nil _ _))
    obtain ⟨hilt, hixlt⟩ := List.forall_mem_cons.1 hlt
    rw [State.patchFrom_cons hi, if_neg (Nat.not_le.2 hilt), ih (Nat.succ.inj hlen) (.inr hix) hixlt, Nat.add_assoc,
      Nat.add_comm 1]
    rfl

/-- The index loop stops at the first index out of range. -/
theorem State.patchFrom_excIndex {num b e k : Nat} {g xs : List Word} {ix : List Byte} (hlen : ix.length = xs.length)
    (h : s.regionHolds e ix) (hk : k < ix.length) (hbad : num ≤ (ix.getD k 0).toNat)
    (hgood : ∀ j, j < k → (ix.getD j 0).toNat < num) :
    s.patchFrom num b g e xs = .error (.engine .excIndex (e + k)) := by
  induction ix generalizing e g xs k with
  | nil => exact absurd hk (Nat.not_lt_zero k)
  | cons i ix ih =>
    obtain ⟨x, xs, rfl⟩ := List.exists_cons_of_length_eq_add_one hlen.symm
    obtain ⟨-, hi, hix⟩ := State.holds_cons (h.resolve_left (List.cons_ne_nil _ _))
    rw [State.patchFrom_cons hi]
    cases k with
    | zero => exact if_pos hbad
    | succ k =>
      have hilt : i.toNat < num := hgood 0 (Nat.succ_pos k)
      have hrest := ih (g := orAt g i.toNat (x <<< b)) (Nat.succ.inj hlen) (.inr hix) (Nat.lt_of_succ_lt_succ hk) hbad
        fun j hj => hgood (j + 1) (Nat.succ_lt_succ hj)
      rw [if_neg (Nat.not_le.2 hilt), hrest, Nat.add_assoc, Nat.add_comm 1]

/-- All index bytes are asked for before the first is used. -/
theorem State.pforVbPatch_truncated {num b e : Nat} {g xs : List Word} (hne : xs.length ≠ 0)
    (hshort : s.inLen.toNat < e + xs.length) :
    s.pforVbPatch num b g xs e = .error (.engine .truncated e) :=
  s.need_bind_truncated _ hne hshort

/-- With its index bytes at hand, a PFOR_VB block goes on to the index loop. -/
theorem State.pforVbPatch_of_regionHolds {num b e : Nat} {g xs : List Word} {ix : List Byte}
    (hlen : ix.length = xs.length) (h : s.regionHolds e ix) :
    s.pforVbPatch num b g xs e = s.patchFrom num b g e xs := by
  rw [State.pforVbPatch, ← hlen, State.need_of_regionHolds h, Res.bind_ok]

/-! ### The dispatcher (R171) -/

theorem State.decodeBlock_of_inLen_le {c num : Nat} {il : Bool} {prev : Word} (hend : s.inLen.toNat ≤ c) :
    s.decodeBlock c num il prev = .error (.engine .truncated c) :=
  s.need_bind_truncated _ one_ne_zero (Nat.lt_succ_of_le hend)

/-- With its header at hand, a block of a legal width is decoded by the decoder its type selects, and scanned. -/
theorem State.decodeBlock_of_header {c num : Nat} {il : Bool} {prev : Word} {h : Byte} (hc : c < s.inLen.toNat)
    (hh : s.ibuf.read c = some h) :
    s.decodeBlock c num il prev =
      if 32 < (h.extractLsb' 0 6).toNat then raise .badWidth c
      else s.blockGaps (decodeType h) c num (h.extractLsb' 0 6).toNat
          (il && decide (num = s.params.bs) && decide (decodeType h ≠ .constant)) >>= fun p =>
        .ok (scan prev p.1, p.2) :=
  State.need_byte_bind _ hc hh

/-- TYPE selects one of the four block decoders; CONSTANT has one flavour. -/
theorem State.blockGaps_of_typeField {c num b : Nat} {useIL : Bool} {h : Byte} {r : Res (List Word × Nat)}
    (hty : (h.extractLsb' 6 2 = 3 ∧ r = s.constantGaps c num b) ∨
      (h.extractLsb' 6 2 = 0 ∧ r = s.forGaps c num b useIL) ∨
      (h.extractLsb' 6 2 = 2 ∧ r = s.pforBitmapGaps c num b useIL) ∨
      (h.extractLsb' 6 2 = 1 ∧ r = s.pforVbGaps c num b useIL)) :
    s.blockGaps (decodeType h) c num b (useIL && decide (decodeType h ≠ .constant)) = r := by
  obtain ⟨hty, rfl⟩ | ⟨hty, rfl⟩ | ⟨hty, rfl⟩ | ⟨hty, rfl⟩ := hty
  · rw [show decodeType h = .constant by rw [decodeType, hty]; rfl]
    rfl
  · rw [show decodeType h = .for_ by rw [decodeType, hty]; rfl]
    exact congrArg (s.forGaps c num b) (Bool.and_true useIL)
  · rw [show decodeType h = .pforBitmap by rw [decodeType, hty]; rfl]
    exact congrArg (s.pforBitmapGaps c num b) (Bool.and_true useIL)
  · rw [show decodeType h = .pforVb by rw [decodeType, hty]; rfl]
    exact congrArg (s.pforVbGaps c num b) (Bool.and_true useIL)

/-! ### BLOCK (R183) -/

theorem exec_block (s : State) : exec .block s = s.finish s.count.toNat (s.blockCmd false) := rfl

theorem exec_blockIl (s : State) : exec .blockIl s = s.finish s.count.toNat (s.blockCmd true) := rfl

theorem State.blockChecks_badParam (hcap : s.inLen.toNat ≤ s.params.inCap)
    (hcount : s.count.toNat = 0 ∨ s.params.bs < s.count.toNat) :
    s.blockChecks = .error (.engine .badParam s.cur.toNat) := by
  rw [State.blockChecks, s.checkInLen_bind_of_le _ hcap, if_pos hcount]
  rfl

/-- A legal COUNT leaves the output range to be checked. -/
theorem State.blockChecks_eq_checkOut (hcap : s.inLen.toNat ≤ s.params.inCap) (hpos : 1 ≤ s.count.toNat)
    (hle : s.count.toNat ≤ s.params.bs) : s.blockChecks = s.checkOut s.count.toNat := by
  rw [State.blockChecks, s.checkInLen_bind_of_le _ hcap, if_neg (by omega)]

/-- A fault of BLOCK's checks is the command's. -/
theorem State.blockCmd_of_blockChecks_error {il : Bool} {stop : Stop} (h : s.blockChecks = .error stop) :
    s.blockCmd il = .error stop := by
  rw [State.blockCmd, h, Res.bind_error]

/-- Its checks passed, BLOCK decodes the block at CUR and stages it. -/
theorem State.blockCmd_of_blockChecks_ok {il : Bool} (h : s.blockChecks = .ok ()) :
    s.blockCmd il = s.decodeBlock s.cur.toNat s.count.toNat il s.prev >>= fun p => .ok (s.commitIds p.1 p.2) := by
  rw [State.blockCmd, h, Res.bind_ok]

end Blocks

/-! ### The obligations -/

/-- Settles O32: the value bytes are missing or at hand. -/
theorem constantBlockGaps : Obligations.ConstantBlockGaps := fun _ _ _ _ _ =>
  ⟨State.constantGaps_truncated, fun _ => State.constantGaps_of_regionHolds⟩

/-- Settles O33: `size` is the packed size of either flavour, and the region is missing or at hand. -/
theorem forBlockGaps : Obligations.ForBlockGaps := by
  intro s c num b il size _ hsize
  have hpacked : size = packedSize s.params.bs num b il := hsize
  refine ⟨fun hne hshort => ?truncated, fun xs hlen hregion => ?fields⟩
  case truncated =>
    subst hpacked
    exact State.forGaps_truncated hne hshort
  case fields =>
    rw [State.forGaps_of_regionHolds (hlen.trans hpacked) hregion, hlen]
    rfl

/-- Settles O31: TRUNCATED and BAD_WIDTH stand in the header, and the selected decoder's answer is passed on. -/
theorem dispatcherSelectsTheBlockDecoder : Obligations.DispatcherSelectsTheBlockDecoder := by
  intro s c num il prev h b useIL r hb huse
  subst hb
  have huseIL : (il && decide (num = s.params.bs)) = useIL := by
    rw [Bool.eq_iff_iff, huse, Bool.and_eq_true, decide_eq_true_iff]
  refine ⟨State.decodeBlock_of_inLen_le, fun hc hh => ?_⟩
  have hdecode := State.decodeBlock_of_header (num := num) (il := il) (prev := prev) hc hh
  refine ⟨fun hwide => ?badWidth, fun hb hty => ?selects⟩
  case badWidth => exact hdecode.trans (if_pos hwide)
  case selects =>
    rw [if_neg (Nat.not_lt.2 hb), huseIL, State.blockGaps_of_typeField hty] at hdecode
    constructor
    · rintro stop rfl
      exact hdecode
    · rintro g e rfl
      exact hdecode

/-- Settles O29: BLOCK's checks, then the block decoder, decide how the command ends. -/
theorem blockResult : Obligations.BlockResult := by
  refine ⟨rfl, rfl, fun i il s hi hcap => ?_⟩
  have hexec : exec i s = s.finish s.count.toNat (s.blockCmd il) := by
    obtain ⟨rfl, rfl⟩ | ⟨rfl, rfl⟩ := hi
    · exact exec_block s
    · exact exec_blockIl s
  rw [hexec]
  refine ⟨fun hcount => ?badParam, fun hpos hle hout => ?outRange, fun hpos hle hout => ?decodes⟩
  case badParam =>
    have hchecks := State.blockChecks_badParam hcap hcount
    exact State.finish_fault_at_cur_keeps rfl (State.blockCmd_of_blockChecks_error hchecks)
  case outRange =>
    have hchecks : s.blockChecks = .error (.engine .outRange s.cur.toNat) := by
      rw [State.blockChecks_eq_checkOut hcap hpos hle, s.checkOut_error]
      exact ⟨hout, rfl⟩
    exact State.finish_fault_at_cur_keeps rfl (State.blockCmd_of_blockChecks_error hchecks)
  case decodes =>
    have hchecks : s.blockChecks = .ok () := by
      rwa [State.blockChecks_eq_checkOut hcap hpos hle, s.checkOut_ok]
    rw [State.blockCmd_of_blockChecks_ok hchecks]
    refine ⟨fun code off hfault => ?_, fun out e hblock => ?_⟩
    · rw [hfault]
      exact State.finish_faults rfl
    · rw [hblock]
      exact s.finish_completes rfl

/-- Settles O36: an empty area is the selector's, and another is in the form its first byte says. -/
theorem exceptionAreaForms : Obligations.ExceptionAreaForms := by
  intro s e
  refine ⟨fun h => ?unread,
    fun x he hx => ⟨fun hne => ?otherByte, fun hff hsel => ?ambiguous, fun hff hsel => ?consumed⟩, fun n hn hend => ?noByte,
    fun vs hn h => ?escape, fun vs n hn h hshort => ?escapeTruncated,
    fun x n he hx hne => ?vb⟩
  case unread => rw [s.excArea_zero, State.excEmpty_of_noRead_or_end h, Res.bind_ok]
  case otherByte => rw [s.excArea_zero, State.excEmpty_of_byte_ne he hx hne, Res.bind_ok]
  case ambiguous => rw [s.excArea_zero, State.excEmpty_faultOnFf he (hx.trans (congrArg some hff)) hsel, Res.bind_error]
  case consumed => rw [s.excArea_zero, State.excEmpty_consume he (hx.trans (congrArg some hff)) hsel, Res.bind_ok]
  case noByte => exact State.excArea_of_inLen_le (Nat.ne_zero_of_lt hn) hend
  case escape =>
    obtain ⟨he, hx, hvs⟩ := State.holds_cons h
    exact (State.excArea_of_byte (Nat.ne_zero_of_lt hn) he hx).trans (State.escValues_of_holds hvs)
  case escapeTruncated =>
    obtain ⟨he, hx, hvs⟩ := State.holds_cons h
    exact (State.excArea_of_byte (Nat.ne_zero_of_lt hn) he hx).trans (State.escValues_truncated hn hvs hshort)
  case vb => exact (State.excArea_of_byte n.succ_ne_zero he hx).trans (if_neg hne)

/-- Settles O34: the BEXC byte, the bitmap, the exception bits and the base values are asked for in turn, EXC_SHIFT
standing between the bitmap and the exception bits. -/
theorem pforBitmapBlockGaps : Obligations.PforBitmapBlockGaps := by
  intro s c num b il e bm eb bv pos _
  refine ⟨State.pforBitmapGaps_of_inLen_le, fun hc he => ?_⟩
  rw [State.pforBitmapGaps_of_bexc hc he]
  refine ⟨fun hwide => if_pos hwide, fun hE hbm hpos => ?_⟩
  rw [if_neg (Nat.not_lt.2 hE)]
  refine ⟨State.pforBitmapBody_truncated hbm, fun hbitmap => ?_⟩
  have hpositions : bitmapPositions (leNat bm) num = pos := hpos.symm
  rw [State.pforBitmapBody_of_bitmap hbm hbitmap, hpositions]
  refine ⟨fun hne hb => if_pos ⟨mt List.length_eq_zero_iff.1 hne, hb⟩, fun hlegal heb => ?_⟩
  have hshift : ¬ (pos.length ≠ 0 ∧ b = 32) := fun ⟨hne, hb⟩ =>
    hlegal.elim (fun hnil => hne (List.length_eq_zero_iff.2 hnil)) fun hb' => hb' hb
  rw [if_neg hshift]
  refine ⟨State.bitmapPatch_exceptions_truncated heb, fun hfit hbv =>
    ⟨State.bitmapPatch_base_truncated heb hfit hbv, State.bitmapPatch_of_regionHolds heb hbv⟩⟩

/-- Settles O35: EXC_SHIFT, the base values, the exception area and the index bytes, in turn. -/
theorem pforVbBlockGaps : Obligations.PforVbBlockGaps := by
  intro s c num b il n bv ix xs e _
  refine ⟨State.pforVbGaps_of_inLen_le, fun hc hn hbv => ?_⟩
  rw [State.pforVbGaps_of_nexc hc hn]
  have hzero : n = 0 ↔ n.toNat = 0 := BitVec.toNat_inj.symm
  have hshift (h : n = 0 ∨ b ≠ 32) : ¬ (n.toNat ≠ 0 ∧ b = 32) := by
    rw [hzero] at h
    omega
  refine ⟨fun hne hb => ?excShift, fun hlegal hsize hshort => ?truncated, fun hlegal hbase => ?_⟩
  case excShift =>
    subst hb
    rw [State.pforVbBase_excShift (mt hzero.2 hne), Res.bind_error]
  case truncated =>
    rw [hbv] at hsize hshort
    rw [State.pforVbBase_truncated (hshift hlegal) hsize hshort, Res.bind_error]
  rw [State.pforVbBase_of_regionHolds (hshift hlegal) hbv hbase, Res.bind_ok]
  refine ⟨fun stop hstop => ?excAreaFaults, fun harea => ?_⟩
  case excAreaFaults => rw [hstop, Res.bind_error]
  have hlen : xs.length = n.toNat := State.excArea_length harea
  rw [harea, Res.bind_ok, ← hlen]
  refine ⟨fun hne hshort => ?indexTruncated, fun hix hindex => ?_⟩
  case indexTruncated =>
    have hxs : xs.length ≠ 0 := by rwa [hlen, Ne, ← hzero]
    exact State.pforVbPatch_truncated hxs hshort
  rw [State.pforVbPatch_of_regionHolds hix hindex]
  exact ⟨fun k hk hbad hgood => State.patchFrom_excIndex hix hindex hk hbad hgood, State.patchFrom_of_lt hix hindex⟩

end Sys2Proof.Machine

/-! Fault entry and the interrupt line (spec/60_exceptions.md): what a fault leaves, and when `irq` falls. -/

namespace Sys2Proof.Machine

section InterruptLine

variable {s t : State}

/-! ### `irq` is a function of IE and DONE -/

/-- `irq` is low exactly while IE or DONE is 0 (R57). -/
theorem State.irq_eq_false_iff : s.irq = false ↔ s.ie = false ∨ s.done = false := Bool.and_eq_false_iff

/-- `irq` sees the state through IE and DONE alone (R57). -/
theorem State.irq_congr (hie : t.ie = s.ie) (hdone : t.done = s.done) : t.irq = s.irq := by
  rw [State.irq, State.irq, hie, hdone]

/-- While DONE is 1, `irq` is IE (R57). -/
theorem State.irq_of_done (h : s.done = true) : s.irq = s.ie := by
  rw [State.irq, h, Bool.and_true]

/-- An IDLE engine reads BUSY = 0 (R38, R56). -/
theorem State.busy_of_engine_idle (h : s.engine = .idle) : s.busy = false := by
  rw [State.busy, h]

/-! ### The host accesses that bear on `irq` -/

/-- While IDLE, a STATUS write clears the W1C bits (R39–R42). -/
theorem State.writeReg_status_of_idle (v : Word) (h : s.busy = false) : s.writeReg .status v = s.clearStatus v := by
  rw [State.writeReg, h]
  rfl

/-- A CTRL write acts in either phase (R35, R234). -/
theorem State.writeReg_ctrl (v : Word) : s.writeReg .ctrl v = s.writeCtrl v := by
  simp [State.writeReg, Reg.guarded, State.writeRegIdle]

/-- Writing 1 to DONE clears it (R39). -/
theorem State.clearStatus_done_of_bit {v : Word} (h : v.getLsbD 1 = true) : (s.clearStatus v).done = false := by
  simp [h]

/-- A CTRL write with IE = 0 leaves IE 0, by the write or by the reset it asks for (R35, R252). -/
theorem State.writeCtrl_ie_of_bit {v : Word} (h : v.getLsbD 0 = false) : (s.writeCtrl v).ie = false := by
  unfold State.writeCtrl
  split
  case isTrue => exact s.softReset_ie
  case isFalse => exact h

/-- Reading a register, whether it answers its value or any word, leaves `irq` as it is (R80). -/
theorem State.readReg_irq (r : Reg) : (s.readReg r).irq = s.irq := by
  unfold State.readReg
  split
  case isTrue => exact State.irq_congr s.answerFree_ie s.answerFree_done
  case isFalse => exact State.irq_congr (s.answer_ie _) (s.answer_done _)

end InterruptLine

/-- Settles O18: each event leaves DONE or IE at 0, and a read touches neither. -/
theorem irqFalls : Obligations.IrqFalls := by
  intro s v
  refine ⟨fun hidle hbit => ?clearDone, fun hbit => ?clearIe, ?accept, ?softReset, ?powerOn, s.readReg_irq .status⟩
  case clearDone =>
    rw [State.writeReg_status_of_idle v hidle]
    exact State.irq_eq_false_iff.2 (.inr (State.clearStatus_done_of_bit hbit))
  case clearIe =>
    rw [State.writeReg_ctrl]
    exact State.irq_eq_false_iff.2 (.inl (State.writeCtrl_ie_of_bit hbit))
  case accept => exact State.irq_eq_false_iff.2 (.inr (s.accept_done v))
  case softReset => exact State.irq_eq_false_iff.2 (.inl s.softReset_ie)
  case powerOn => exact State.irq_eq_false_iff.2 (.inl s.powerOn_ie)

/-- Fault entry keeps CTRL.IE, STATUS.OVR and the registers a command would have staged (R227, R228). -/
theorem State.faultEntry_sameRegisters (s : State) (code : FaultCode) (off n : Nat) :
    s.sameRegisters (s.faultEntry code off n) := by
  simp [State.sameRegisters]

/-- Settles O20: BUSY follows from the phase and `irq` from DONE; the rest is the fields fault entry writes and keeps. -/
theorem faultEntryState : Obligations.FaultEntryState := by
  intro s code off n
  have hdone := s.faultEntry_done code off n
  have hidle := s.faultEntry_engine code off n
  have hirq : (s.faultEntry code off n).irq = s.ie := (State.irq_of_done hdone).trans (s.faultEntry_ie code off n)
  exact ⟨s.faultEntry_errOff code off n, s.faultEntry_errCode code off n, s.faultEntry_err code off n, hdone,
    State.busy_of_engine_idle hidle, hidle, s.faultEntry_sameRegisters code off n, hirq, s.faultEntry_ibuf code off n⟩

end Sys2Proof.Machine

/-! The encoding (spec/30_encoding.md): what the decoder of each format reads in an encoding, and what the encoder makes
of a decoded word. -/

namespace Sys2Proof

/-! ### Bytes and words -/

/-- The decoder of a byte format reads the byte of a word back (R100). -/
@[simp] theorem setWidth_byteWord (x : Byte) : (byteWord x).setWidth 8 = x := by
  simp [byteWord]

/-! ### Command words with RSV ≠ 0 (R103 item 1) -/

/-- No RSV bit below bit `k` is set. -/
def rsvClearBelow (w : Word) (k : Nat) : Prop := ∀ j, 5 ≤ j → j < k → w.getLsbD j = false

theorem rsvClearBelow_five (w : Word) : rsvClearBelow w 5 := fun _ hlo hlt => absurd hlt (Nat.not_lt.2 hlo)

theorem rsvClearBelow_succ {w : Word} {k : Nat} (h : rsvClearBelow w k) (hbit : ¬ w.getLsbD k = true) :
    rsvClearBelow w (k + 1) := fun j hlo hlt => by
  obtain hlt | rfl := Nat.lt_succ_iff_lt_or_eq.1 hlt
  · exact h j hlo hlt
  · exact Bool.eq_false_iff.2 hbit

/-- RSV is not 0 exactly when one of its bits is set. -/
theorem rsv_ne_zero_iff (w : Word) : w.extractLsb' 5 27 ≠ 0 ↔ ∃ k, 5 ≤ k ∧ w.getLsbD k = true := by
  constructor
  · intro h
    by_contra! hclear
    refine h (BitVec.eq_of_getLsbD_eq fun i hi => ?_)
    rw [BitVec.getLsbD_extractLsb', Bool.eq_false_iff.2 (hclear (5 + i) (by omega)), Bool.and_false]
    simp
  · rintro ⟨k, hk, hbit⟩ h
    have hlt : k < 32 := BitVec.lt_of_getLsbD hbit
    have hzero : (w.extractLsb' 5 27).getLsbD (k - 5) = false := by rw [h]; simp
    rw [BitVec.getLsbD_extractLsb', show 5 + (k - 5) = k by omega, hbit, Bool.and_true] at hzero
    exact absurd hzero (by simp; omega)

/-- A word whose lowest RSV bit is bit `31 - n`, with `hi` above that bit and `low` below RSV. -/
structure RsvWord (w : Word) {n : Nat} (hi : BitVec n) (low : BitVec 5) : Prop where
  clear : rsvClearBelow w (31 - n)
  lowest : w.getLsbD (31 - n) = true
  above : w.extractLsb' (32 - n) n = hi
  below : w.extractLsb' 0 5 = low

/-- How the encoder lays out a word with RSV ≠ 0, bit by bit. -/
theorem getLsbD_rsvWord {n : Nat} (hn : n ≤ 26) (hi : BitVec n) (low : BitVec 5) (j : Nat) :
    ((hi ++ 1#1 ++ 0#(26 - n) ++ low).cast (by omega) : Word).getLsbD j =
      if j < 5 then low.getLsbD j else if j < 31 - n then false
      else if j = 31 - n then true else hi.getLsbD (j - (32 - n)) := by
  rw [BitVec.getLsbD_cast]
  simp only [BitVec.getLsbD_append, BitVec.getLsbD_zero]
  split_ifs <;> grind

theorem rsvWord_append {n : Nat} (hn : n ≤ 26) (hi : BitVec n) (low : BitVec 5) :
    RsvWord ((hi ++ 1#1 ++ 0#(26 - n) ++ low).cast (by omega)) hi low where
  clear j hlo hlt := by
    rw [getLsbD_rsvWord hn, if_neg (by omega), if_pos hlt]
  lowest := by
    rw [getLsbD_rsvWord hn, if_neg (by omega), if_neg (by omega), if_pos rfl]
  above := by
    apply BitVec.eq_of_getLsbD_eq
    intro i hlt
    rw [BitVec.getLsbD_extractLsb', getLsbD_rsvWord hn, if_neg (by omega), if_neg (by omega), if_neg (by omega),
      Nat.add_sub_cancel_left, decide_eq_true hlt, Bool.true_and]
  below := by
    apply BitVec.eq_of_getLsbD_eq
    intro i hlt
    rw [BitVec.getLsbD_extractLsb', getLsbD_rsvWord hn, if_pos (by omega), Nat.zero_add, decide_eq_true hlt,
      Bool.true_and]

/-- The parts of a word whose lowest RSV bit is bit `k`, put together again. -/
theorem append_of_lowest_rsv {w : Word} {k : Nat} (hk : 5 ≤ k ∧ k ≤ 31) (hclear : rsvClearBelow w k)
    (hbit : w.getLsbD k = true) :
    (w.extractLsb' (k + 1) (31 - k) ++ 1#1 ++ 0#(k - 5) ++ w.extractLsb' 0 5).cast (by omega) = w := by
  apply BitVec.eq_of_getLsbD_eq
  intro i hi
  simp only [BitVec.getLsbD_cast, BitVec.getLsbD_append, BitVec.getLsbD_extractLsb', BitVec.getLsbD_zero]
  by_cases h5 : i < 5
  · simp [h5]
  by_cases hik : i < k
  · simp [h5, show i - 5 < k - 5 by omega, hclear i (by omega) hik]
  obtain rfl | hgt := Nat.eq_or_lt_of_not_lt hik
  · simp [h5, hbit]
  · simp [h5, show ¬ i - 5 < k - 5 by omega, show ¬ i - 5 - (k - 5) < 1 by omega,
      show i - 5 - (k - 5) - 1 < 31 - k by omega, show k + 1 + (i - 5 - (k - 5) - 1) = i by omega]


/-- Such a word is not decoded by OP (R103). -/
theorem RsvWord.decodeCmd_eq {w : Word} {n : Nat} {hi : BitVec n} {low : BitVec 5} (h : RsvWord w hi low)
    (hn : n ≤ 26) : decodeCmd w = decodeRsv w :=
  if_neg ((rsv_ne_zero_iff w).2 ⟨31 - n, by omega, h.lowest⟩)


/-- A row whose encoding has these parts is decoded back where `decodeRsv` finds it from them. -/
theorem decodeCmd_encode_of_rsv {i : Instr} {n : Nat} {hi : BitVec n} {low : BitVec 5} (hn : n ≤ 26)
    (henc : RsvWord (encode i) hi low) (hdec : ∀ w : Word, RsvWord w hi low → decodeRsv w = i) :
    decodeCmd (encode i) = i := by
  rw [henc.decodeCmd_eq hn, hdec _ henc]

/-- The row of bit 5 has no clear bit between the two parts. -/
theorem encode_illegalRsv5 (hi : BitVec 26) (low : BitVec 5) :
    encode (.illegalRsv5 hi low) = (hi ++ 1#1 ++ 0#(26 - 26) ++ low).cast rfl := by
  apply BitVec.eq_of_getLsbD_eq
  intro i h
  simp [encode]

/-- The encoder puts a word with RSV ≠ 0 together again. -/
theorem encode_decodeRsv (w : Word) (h : w.extractLsb' 5 27 ≠ 0) : encode (decodeRsv w) = w := by
  obtain ⟨k, hk, hset⟩ := (rsv_ne_zero_iff w).1 h
  have hclear := rsvClearBelow_five w
  unfold decodeRsv
  refine iteInduction (motive := fun i => encode i = w)
    (fun hbit => (encode_illegalRsv5 _ _).trans (append_of_lowest_rsv (by decide) hclear hbit)) fun hbit => ?_
  replace hclear := rsvClearBelow_succ hclear hbit
  iterate 25
    refine iteInduction (motive := fun i => encode i = w)
      (fun hbit => append_of_lowest_rsv (by decide) hclear hbit) fun hbit => ?_
    replace hclear := rsvClearBelow_succ hclear hbit
  have hlt : k < 32 := BitVec.lt_of_getLsbD hset
  have hbit : w.getLsbD 31 = true := by
    obtain rfl : k = 31 := by
      by_contra hne
      rw [hclear k hk (by omega)] at hset
      cases hset
    exact hset
  have happ := append_of_lowest_rsv (by decide) hclear hbit
  rwa [show w.extractLsb' 32 0 = 0#0 from BitVec.of_length_zero] at happ

/-! ### Command words with RSV = 0 (R103 items 2 and 3) -/

section CommandWords

variable (il : Bool) (op : BitVec 4)

theorem cmdWord_op : (cmdWord il op).extractLsb' 0 4 = op := BitVec.extractLsb'_append_eq_right

theorem cmdWord_low : (cmdWord il op).extractLsb' 0 2 = op.extractLsb' 0 2 := by
  rw [cmdWord, BitVec.extractLsb'_append_eq_of_add_le (by decide)]

theorem cmdWord_getLsbD (k : Nat) :
    (cmdWord il op).getLsbD k = if k < 4 then op.getLsbD k else decide (k = 4) && il := by
  simp only [cmdWord, BitVec.getLsbD_append, BitVec.getLsbD_zero]
  split_ifs with h4 h5
  · rfl
  · obtain rfl : k = 4 := by omega
    cases il <;> rfl
  · simp [show k ≠ 4 by omega]

theorem cmdWord_il : (cmdWord il op).getLsbD 4 = il := cmdWord_getLsbD il op 4

theorem cmdWord_rsv : (cmdWord il op).extractLsb' 5 27 = 0 := by
  apply BitVec.eq_of_getLsbD_eq
  intro i hi
  rw [BitVec.getLsbD_extractLsb', cmdWord_getLsbD, if_neg (by omega)]
  simp [show 5 + i ≠ 4 by omega]

/-- A word with RSV = 0 is its IL bit and its OP. -/
theorem cmdWord_of_rsv_zero (w : Word) (h : w.extractLsb' 5 27 = 0) :
    cmdWord (w.getLsbD 4) (w.extractLsb' 0 4) = w := by
  apply BitVec.eq_of_getLsbD_eq
  intro i hi
  rw [cmdWord_getLsbD]
  split_ifs with h4
  · simp [h4]
  · obtain rfl | hgt := Nat.eq_or_lt_of_not_lt h4
    · simp
    · have hclear : w.getLsbD i = false := by
        by_contra hset
        exact (rsv_ne_zero_iff w).2 ⟨i, hgt, by simpa using hset⟩ h
      simp [hclear, show i ≠ 4 by omega]

theorem decodeCmd_cmdWord : decodeCmd (cmdWord il op) = decodeOp (cmdWord il op) := if_pos (cmdWord_rsv il op)

end CommandWords

/-- The decoder gives back an encoded command. -/
theorem decodeCmd_encode (i : Instr) (hf : i.format = .cmd) : decodeCmd (encode i) = i := by
  cases i with
  | ldle il | baseval il | vb il | unpack il | unpackIl il | scan il | block | blockIl | seq | seqIl | illegalOp0 il
    | illegalOp9 il =>
    rw [encode, decodeCmd_cmdWord, decodeOp, cmdWord_op, cmdWord_il]
    rfl
  | illegalOpAB il lo =>
    rw [encode, decodeCmd_cmdWord, decodeOp, cmdWord_op, cmdWord_il]
    obtain rfl | rfl : lo = 0 ∨ lo = 1 := by clear hf; revert lo; decide
    · rfl
    · rfl
  | illegalOpCF il lo =>
    rw [encode, decodeCmd_cmdWord, decodeOp, cmdWord_op, cmdWord_il, cmdWord_low]
    clear hf; revert il lo; decide
  | illegalRsv5 hi low =>
    refine decodeCmd_encode_of_rsv (by decide) (encode_illegalRsv5 hi low ▸ rsvWord_append le_rfl hi low) ?_
    rintro w ⟨-, hbit, rfl, rfl⟩
    exact if_pos hbit
  | illegalRsv6 hi low | illegalRsv7 hi low | illegalRsv8 hi low | illegalRsv9 hi low | illegalRsv10 hi low 
    | illegalRsv11 hi low | illegalRsv12 hi low | illegalRsv13 hi low | illegalRsv14 hi low | illegalRsv15 hi low 
    | illegalRsv16 hi low | illegalRsv17 hi low | illegalRsv18 hi low | illegalRsv19 hi low | illegalRsv20 hi low 
    | illegalRsv21 hi low | illegalRsv22 hi low | illegalRsv23 hi low | illegalRsv24 hi low | illegalRsv25 hi low 
    | illegalRsv26 hi low | illegalRsv27 hi low | illegalRsv28 hi low | illegalRsv29 hi low | illegalRsv30 hi low =>
    refine decodeCmd_encode_of_rsv (by decide) (rsvWord_append (by decide) hi low) ?_
    rintro w ⟨hclear, hbit, rfl, rfl⟩
    simp only [decodeRsv, hbit, hclear _ _, Nat.reduceLeDiff, Nat.reduceLT, Nat.reduceSub, if_true, if_false,
      Bool.false_eq_true]
  | illegalRsv31 low =>
    refine decodeCmd_encode_of_rsv (Nat.zero_le 26) (rsvWord_append (Nat.zero_le 26) 0#0 low) ?_
    rintro w ⟨hclear, -, -, rfl⟩
    simp only [decodeRsv, hclear _ _, Nat.reduceLeDiff, Nat.reduceLT, Nat.reduceSub, if_false, Bool.false_eq_true]
  | for_ | for32 | pforVb | pforVb32 | pforBitmap | pforBitmap32 | constant | constant32 | forIl | forIl32 | pforVbIl
    | pforVbIl32 | pforBitmapIl | pforBitmapIl32 | badWidth | bexc | bexc32 | badWidthExc | baseval1 | baseval2
    | baseval3 | basevalRsv | vb1 | vb2 | vb3 | vb4 | vb5 | vbRsv | excEsc | excVb => cases hf

/-- The encoder gives back a word with RSV = 0, whichever of the 32 it is. -/
theorem encode_decodeOp_cmdWord (il : Bool) (op : BitVec 4) : encode (decodeOp (cmdWord il op)) = cmdWord il op := by
  revert il op
  decide

/-- OP selects ILLEGAL_CMD at 0 and from 9 on (R103 item 3). -/
theorem decodeOp_cmdWord_isIllegalCmd (il : Bool) (op : BitVec 4) :
    (decodeOp (cmdWord il op)).isIllegalCmd = true ↔ op.toNat = 0 ∨ 9 ≤ op.toNat := by
  revert il op
  decide

theorem decodeOp_cmdWord_format (il : Bool) (op : BitVec 4) : (decodeOp (cmdWord il op)).format = .cmd := by
  revert il op
  decide

theorem encode_decodeCmd (w : Word) : encode (decodeCmd w) = w := by
  unfold decodeCmd
  split_ifs with h
  · rw [← cmdWord_of_rsv_zero w h, encode_decodeOp_cmdWord]
  · exact encode_decodeRsv w h

theorem Instr.wf_of_format_cmd (i : Instr) (hf : i.format = .cmd) : i.wf = true := by
  cases i with
  | badWidth | badWidthExc | vb1 | vb2 | vb3 | vbRsv | excVb => cases hf
  | _ => rfl

theorem Instr.format_of_isIllegalCmd {i : Instr} (h : i.isIllegalCmd = true) : i.format = .cmd := by
  rw [Instr.isIllegalCmd, Bool.and_eq_true] at h
  exact of_decide_eq_true h.1

theorem decodeRsv_isIllegalCmd (w : Word) : (decodeRsv w).isIllegalCmd = true := by
  unfold decodeRsv
  iterate 26 refine iteInduction (motive := fun i => Instr.isIllegalCmd i = true) (fun _ => rfl) fun _ => ?_
  rfl

theorem decodeCmd_format (w : Word) : (decodeCmd w).format = .cmd := by
  unfold decodeCmd
  split_ifs with h
  · rw [← cmdWord_of_rsv_zero w h, decodeOp_cmdWord_format]
  · exact Instr.format_of_isIllegalCmd (decodeRsv_isIllegalCmd w)

/-! ### Block headers (R104) -/

section Headers

variable (ty : BlockType) (b : BitVec 6)

theorem hdrByte_width : (hdrByte ty b).extractLsb' 0 6 = b := BitVec.extractLsb'_append_eq_right

theorem hdrByte_low : (hdrByte ty b).extractLsb' 0 5 = b.extractLsb' 0 5 := by
  rw [hdrByte, BitVec.extractLsb'_append_eq_of_add_le (by decide)]

theorem decodeType_hdrByte : decodeType (hdrByte ty b) = ty := by
  have hcode : (hdrByte ty b).extractLsb' 6 2 = ty.code := BitVec.extractLsb'_append_eq_left
  rw [decodeType, hcode]
  cases ty <;> rfl

/-- A byte is its type and its width. -/
theorem hdrByte_of_fields (x : Byte) : hdrByte (decodeType x) (x.extractLsb' 0 6) = x := by
  have hcode : (decodeType x).code = x.extractLsb' 6 2 := by
    rw [decodeType]
    generalize x.extractLsb' 6 2 = c
    revert c
    decide
  rw [hdrByte, hcode]
  apply BitVec.eq_of_toNat_eq
  rw [Machine.toNat_append_eq_add, BitVec.extractLsb'_toNat, BitVec.extractLsb'_toNat, Nat.shiftRight_eq_div_pow,
    Nat.shiftRight_zero]
  omega

end Headers

/-- A 5-bit width, in the 6 bits of a header. -/
theorem toNat_setWidth_width (b : BitVec 5) : (b.setWidth 6).toNat = b.toNat := BitVec.toNat_setWidth_of_le (by decide)

theorem extractLsb'_setWidth_width (b : BitVec 5) : (b.setWidth 6).extractLsb' 0 5 = b := by
  apply BitVec.eq_of_toNat_eq
  simp
  omega

theorem setWidth_extractLsb'_width (x : Byte) (h : (x.extractLsb' 0 6).toNat < 32) :
   (x.extractLsb' 0 5).setWidth 6 = x.extractLsb' 0 6 := by
  apply BitVec.eq_of_toNat_eq
  simp at h ⊢
  omega

/-- The decoder gives back an encoded header, in its flavour. -/
theorem decodeHdr_encode (i : Instr) (il : Bool) (hf : i.format = .hdr il) (hwf : i.wf = true) :
    decodeHdr il ((encode i).setWidth 8) = i := by
  cases i with
  | for_ b | forIl b | pforVb b | pforVbIl b | pforBitmap b | pforBitmapIl b | constant b =>
    cases hf
    have hlt : (b.setWidth 6).toNat < 32 := toNat_setWidth_width b ▸ b.isLt
    have hne : b.setWidth 6 ≠ 32 := fun h => absurd hlt (h ▸ by decide)
    simp only [encode, setWidth_byteWord, decodeHdr, hdrByte_width, hdrByte_low, decodeType_hdrByte,
      if_neg (Nat.lt_asymm hlt), if_neg hne, extractLsb'_setWidth_width]
  | for32 | forIl32 | pforVb32 | pforVbIl32 | pforBitmap32 | pforBitmapIl32 | constant32 =>
    cases hf
    rfl
  | badWidth ty b =>
    cases hf
    have hwide : 32 < b.toNat := of_decide_eq_true hwf
    simp only [encode, setWidth_byteWord, decodeHdr, hdrByte_width, decodeType_hdrByte, if_pos hwide]
  | _ => cases hf

/-- The encoder gives back a decoded header byte. -/
theorem encode_decodeHdr (il : Bool) (x : Byte) : encode (decodeHdr il x) = byteWord x := by
  have hx := hdrByte_of_fields x
  by_cases hwide : 32 < (x.extractLsb' 0 6).toNat
  · unfold decodeHdr
    rw [if_pos hwide, encode, hx]
  by_cases h32 : x.extractLsb' 0 6 = 32
  · have hword (ty : BlockType) (hty : decodeType x = ty) : byteWord (hdrByte ty 32) = byteWord x := by
      rw [← h32, ← hty, hx]
    unfold decodeHdr
    rw [if_neg hwide, if_pos h32]
    cases hty : decodeType x <;> cases il <;> exact hword _ hty
  · have hlt : (x.extractLsb' 0 6).toNat < 32 :=
      Nat.lt_of_le_of_ne (Nat.not_lt.1 hwide) fun h => h32 (BitVec.eq_of_toNat_eq h)
    have hword (ty : BlockType) (hty : decodeType x = ty) :
        byteWord (hdrByte ty ((x.extractLsb' 0 5).setWidth 6)) = byteWord x := by
      rw [setWidth_extractLsb'_width x hlt, ← hty, hx]
    unfold decodeHdr
    rw [if_neg hwide, if_neg h32]
    cases hty : decodeType x <;> cases il <;> exact hword _ hty

theorem decodeHdr_wf (il : Bool) (x : Byte) : (decodeHdr il x).wf = true := by
  unfold decodeHdr
  by_cases hwide : 32 < (x.extractLsb' 0 6).toNat
  · rw [if_pos hwide]
    exact decide_eq_true hwide
  · rw [if_neg hwide]
    split <;> (cases decodeType x <;> cases il <;> rfl)

/-! ### BEXC bytes, scalars' first bytes and exception areas (R107, R109–R111) -/

/-- A byte is its top bits and its payload of `n` bits. -/
theorem append_payload {k n p : Nat} (hk : k + n = 8) (x : Byte) (hlo : p * 2 ^ n ≤ x.toNat)
    (hhi : x.toNat < (p + 1) * 2 ^ n) : (BitVec.ofNat k p ++ x.extractLsb' 0 n).toNat = x.toNat := by
  have hp : p < 2 ^ k := by
    have hx : x.toNat < 2 ^ k * 2 ^ n := by
      rw [← Nat.pow_add, hk]
      exact x.isLt
    exact Nat.lt_of_mul_lt_mul_right (Nat.lt_of_le_of_lt hlo hx)
  rw [Machine.toNat_append_eq_add, BitVec.toNat_ofNat, BitVec.extractLsb'_toNat, Nat.shiftRight_zero, Nat.mod_eq_of_lt hp]
  have hdiv : x.toNat / 2 ^ n = p := Nat.div_eq_of_lt_le hlo hhi
  rw [← hdiv, Nat.div_add_mod']

theorem decodeBexc_encode (i : Instr) (hf : i.format = .bexc) (hwf : i.wf = true) :
    decodeBexc ((encode i).setWidth 8) = i := by
  cases i with
  | bexc e =>
    have hnum : (e.setWidth 8).toNat = e.toNat := BitVec.toNat_setWidth_of_le (by decide)
    have hpay : (e.setWidth 8).extractLsb' 0 5 = e := by
      apply BitVec.eq_of_toNat_eq
      rw [BitVec.extractLsb'_toNat, hnum, Nat.shiftRight_zero, Nat.mod_eq_of_lt e.isLt]
    rw [encode, setWidth_byteWord, decodeBexc, if_pos (hnum ▸ e.isLt), hpay]
  | bexc32 => rfl
  | badWidthExc e =>
    have hlo : 33 ≤ e.toNat := of_decide_eq_true hwf
    rw [encode, setWidth_byteWord, decodeBexc, if_neg (by omega), if_neg (by omega)]
  | _ => cases hf

theorem encode_decodeBexc (x : Byte) : encode (decodeBexc x) = byteWord x ∧ (decodeBexc x).wf = true := by
  unfold decodeBexc
  split_ifs with h32 heq
  · refine ⟨congrArg byteWord (BitVec.eq_of_toNat_eq ?_), rfl⟩
    rw [BitVec.toNat_setWidth_of_le (by decide), BitVec.extractLsb'_toNat, Nat.shiftRight_zero, Nat.mod_eq_of_lt h32]
  · exact ⟨congrArg byteWord (BitVec.eq_of_toNat_eq heq.symm), rfl⟩
  · exact ⟨rfl, decide_eq_true (by omega)⟩

theorem decodeBasevalByte_encode (i : Instr) (hf : i.format = .basevalByte) :
    decodeBasevalByte ((encode i).setWidth 8) = i := by
  cases i with
  | baseval1 v =>
    have hnum : (v.setWidth 8).toNat = v.toNat := BitVec.toNat_setWidth_of_le (by decide)
    have hpay : (v.setWidth 8).extractLsb' 0 7 = v := by
      apply BitVec.eq_of_toNat_eq
      rw [BitVec.extractLsb'_toNat, hnum, Nat.shiftRight_zero, Nat.mod_eq_of_lt v.isLt]
    rw [encode, setWidth_byteWord, decodeBasevalByte, if_pos (hnum ▸ v.isLt), hpay]
  | baseval2 v =>
    have hnum : (2#2 ++ v).toNat = 128 + v.toNat := Machine.toNat_append_eq_add _ _
    have hpay : (2#2 ++ v).extractLsb' 0 6 = v := BitVec.extractLsb'_append_eq_right
    rw [encode, setWidth_byteWord, decodeBasevalByte, if_neg (by omega), if_pos (by omega), hpay]
  | baseval3 v =>
    have hnum : (6#3 ++ v).toNat = 192 + v.toNat := Machine.toNat_append_eq_add _ _
    have hpay : (6#3 ++ v).extractLsb' 0 5 = v := BitVec.extractLsb'_append_eq_right
    rw [encode, setWidth_byteWord, decodeBasevalByte, if_neg (by omega), if_neg (by omega), if_pos (by omega), hpay]
  | basevalRsv v =>
    have hnum : (7#3 ++ v).toNat = 224 + v.toNat := Machine.toNat_append_eq_add _ _
    have hpay : (7#3 ++ v).extractLsb' 0 5 = v := BitVec.extractLsb'_append_eq_right
    rw [encode, setWidth_byteWord, decodeBasevalByte, if_neg (by omega), if_neg (by omega), if_neg (by omega), hpay]
  | _ => cases hf

theorem encode_decodeBasevalByte (x : Byte) :
    encode (decodeBasevalByte x) = byteWord x ∧ (decodeBasevalByte x).wf = true := by
  have hx := x.isLt
  unfold decodeBasevalByte
  split_ifs with h1 h2 h3 <;> refine ⟨congrArg byteWord (BitVec.eq_of_toNat_eq ?_), rfl⟩
  · rw [BitVec.toNat_setWidth_of_le (by decide), BitVec.extractLsb'_toNat, Nat.shiftRight_zero, Nat.mod_eq_of_lt h1]
  · exact append_payload (p := 2) rfl x (by omega) (by omega)
  · exact append_payload (p := 6) rfl x (by omega) (by omega)
  · exact append_payload (p := 7) rfl x (by omega) (by omega)

theorem decodeVbByte_encode (i : Instr) (hf : i.format = .vbByte) (hwf : i.wf = true) :
    decodeVbByte ((encode i).setWidth 8) = i := by
  cases i with
  | vb1 x =>
    rw [encode, setWidth_byteWord, Machine.decodeVbByte_eq_vb1]
    exact ⟨of_decide_eq_true hwf, rfl⟩
  | vb2 x =>
    obtain ⟨hlo, hhi⟩ := Bool.and_eq_true_iff.1 hwf
    rw [encode, setWidth_byteWord, Machine.decodeVbByte_eq_vb2]
    exact ⟨of_decide_eq_true hlo, of_decide_eq_true hhi, rfl⟩
  | vb3 x =>
    obtain ⟨hlo, hhi⟩ := Bool.and_eq_true_iff.1 hwf
    rw [encode, setWidth_byteWord, Machine.decodeVbByte_eq_vb3]
    exact ⟨of_decide_eq_true hlo, of_decide_eq_true hhi, rfl⟩
  | vbRsv x =>
    have hlo : 251 ≤ x.toNat := of_decide_eq_true hwf
    rw [encode, setWidth_byteWord, decodeVbByte, if_neg (by omega), if_neg (by omega), if_neg (by omega),
      if_neg (by omega), if_neg (by omega)]
  | vb4 | vb5 => rfl
  | _ => cases hf

theorem encode_decodeVbByte (x : Byte) : encode (decodeVbByte x) = byteWord x ∧ (decodeVbByte x).wf = true := by
  unfold decodeVbByte
  split_ifs with h1 h2 h3 h4 h5
  · exact ⟨rfl, decide_eq_true h1⟩
  · exact ⟨rfl, by simp [Instr.wf]; omega⟩
  · exact ⟨rfl, by simp [Instr.wf]; omega⟩
  · exact ⟨congrArg byteWord (BitVec.eq_of_toNat_eq h4.symm), rfl⟩
  · exact ⟨congrArg byteWord (BitVec.eq_of_toNat_eq h5.symm), rfl⟩
  · exact ⟨rfl, decide_eq_true (by omega)⟩

theorem decodeExcArea_encode (i : Instr) (hf : i.format = .excArea) (hwf : i.wf = true) :
    decodeExcArea ((encode i).setWidth 8) = i := by
  cases i with
  | excEsc => rfl
  | excVb x =>
    have hx : x.toNat ≤ 254 := of_decide_eq_true hwf
    rw [encode, setWidth_byteWord, decodeExcArea, if_neg (by omega)]
  | _ => cases hf

theorem encode_decodeExcArea (x : Byte) : encode (decodeExcArea x) = byteWord x ∧ (decodeExcArea x).wf = true := by
  have hx := x.isLt
  unfold decodeExcArea
  split_ifs with h
  · exact ⟨congrArg byteWord (BitVec.eq_of_toNat_eq h.symm), rfl⟩
  · exact ⟨rfl, decide_eq_true (by omega)⟩

/-! ### The obligations -/

/-- Settles O1: format by format, each row's word is read back into the row and its operands. -/
theorem decodeEncodeAgree : Obligations.DecodeEncodeAgree := by
  intro i hwf
  cases hf : i.format with
  | cmd => exact decodeCmd_encode i hf
  | hdr il => exact decodeHdr_encode i il hf hwf
  | bexc => exact decodeBexc_encode i hf hwf
  | basevalByte => exact decodeBasevalByte_encode i hf
  | vbByte => exact decodeVbByte_encode i hf hwf
  | excArea => exact decodeExcArea_encode i hf hwf

/-- Settles O2: format by format, the row a word is decoded to puts the word together again. -/
theorem encodeDecodeAgree : Obligations.EncodeDecodeAgree := by
  intro f w
  cases f with
  | cmd => exact ⟨(decodeCmd w).wf_of_format_cmd (decodeCmd_format w), encode_decodeCmd w⟩
  | hdr il => exact ⟨decodeHdr_wf il _, encode_decodeHdr il _⟩
  | bexc => exact (encode_decodeBexc _).symm
  | basevalByte => exact (encode_decodeBasevalByte _).symm
  | vbByte => exact (encode_decodeVbByte _).symm
  | excArea => exact (encode_decodeExcArea _).symm

/-- Settles O3. -/
theorem sampleWordsDecode : Obligations.SampleWordsDecode := by
  unfold Obligations.SampleWordsDecode
  decide

/-- Settles O4: a word with RSV = 0 is one of the 32 of its IL bit and OP, and every other is in an RSV row. -/
theorem commandWordsDecode : Obligations.CommandWordsDecode := by
  intro w
  by_cases h : w.extractLsb' 5 27 = 0
  · have hw := cmdWord_of_rsv_zero w h
    generalize w.extractLsb' 0 4 = op at hw ⊢
    generalize w.getLsbD 4 = il at hw ⊢
    subst hw
    rw [decodeCmd_cmdWord, decodeOp_cmdWord_isIllegalCmd]
    refine ⟨by simp [cmdWord_rsv], fun _ => ?_⟩
    clear h
    revert il op
    decide
  · rw [decodeCmd, if_neg h]
    exact ⟨⟨fun _ => .inl h, fun _ => decodeRsv_isIllegalCmd w⟩, fun h0 => absurd h0 h⟩
end Sys2Proof

/-! What the stream decoders depend on (R62, R74): the parameters, IN_LEN and the IBUF bytes below it. -/

namespace Sys2Proof.Machine

/-- `t` has the stream of `s`: its parameters, its IN_LEN, and its bytes below IN_LEN. -/
structure State.sameStream (s t : State) : Prop where
  params : t.params = s.params
  inLen : t.inLen = s.inLen
  bytes : ∀ a, a < s.inLen.toNat → t.ibuf.read a = s.ibuf.read a

theorem State.sameStream_refl (s : State) : s.sameStream s := ⟨rfl, rfl, fun _ _ => rfl⟩

/-- A piece of pseudocode reads the stream of `s` alone: where it answers a value on `s`, it answers the value `φ` makes
of it on a state with that stream, and where it raises a fault, the same fault; and it stops the model only where a byte
below IN_LEN was never written. -/
structure State.ReadsStream {α β : Type} (s : State) (φ : α → β) (x : Res α) (y : Res β) : Prop where
  same : y = x.map φ
  stops : ∀ f, x = .error (.model f) → ∃ a, a < s.inLen.toNat ∧ s.ibuf.read a = none

section Rules

variable {α β γ : Type} {s t : State} {φ : α → β}

/-! ### Sequencing -/

/-- A decoder answers the same on both. -/
theorem State.ReadsStream.eq {x y : Res α} (h : s.ReadsStream id x y) : y = x := by
  rw [h.same]
  cases x <;> rfl

theorem State.ReadsStream.of_eq {x y : Res α} (h : y = x) (hstop : ∀ f, x ≠ .error (.model f)) :
    s.ReadsStream id x y where
  same := by rw [h]; cases x <;> rfl
  stops f hf := absurd hf (hstop f)

theorem State.ReadsStream.ok (a : α) : s.ReadsStream φ (.ok a) (.ok (φ a)) := ⟨rfl, fun _ h => by cases h⟩

theorem State.ReadsStream.raise (code : FaultCode) (off : Nat) :
    s.ReadsStream φ (raise code off) (Machine.raise code off) := ⟨rfl, fun _ h => by cases h⟩

theorem State.ReadsStream.bind {x y : Res γ} {f : γ → Res α} {g : γ → Res β} (hx : s.ReadsStream id x y)
    (hf : ∀ a, x = .ok a → s.ReadsStream φ (f a) (g a)) : s.ReadsStream φ (x >>= f) (y >>= g) := by
  obtain rfl := hx.eq
  cases y with
  | ok a => exact hf a rfl
  | error e => exact ⟨rfl, fun m hm => hx.stops m (by simpa using hm)⟩

theorem State.ReadsStream.ite {c : Prop} [Decidable c] {x x' : Res α} {y y' : Res β} (hx : c → s.ReadsStream φ x y)
    (hx' : ¬ c → s.ReadsStream φ x' y') : s.ReadsStream φ (if c then x else x') (if c then y else y') := by
  split
  · exact hx ‹_›
  · exact hx' ‹_›

/-- `Need`, and what follows it where it is met (R12). -/
theorem State.sameStream.need_bind (h : s.sameStream t) {a n : Nat} {f : Unit → Res α} {g : Unit → Res β}
    (hf : n = 0 ∨ a + n ≤ s.inLen.toNat → s.ReadsStream φ (f ()) (g ())) :
    s.ReadsStream φ (s.need a n >>= f) (t.need a n >>= g) := by
  have hneed : t.need a n = s.need a n := by simp only [State.need, h.inLen]
  refine .bind (.of_eq hneed fun m hm => ?_) fun _ hok => hf ((s.need_ok a n _).1 hok)
  cases ((s.need_error a n _).1 hm).2

/-! ### Loads -/

theorem State.sameStream.byteAt (h : s.sameStream t) {a : Nat} (ha : a < s.inLen.toNat) :
    s.ReadsStream id (s.byteAt a) (t.byteAt a) where
  same := by
    simp only [State.byteAt, h.bytes a ha]
    split <;> rfl
  stops f hf := ⟨a, ha, ((s.byteAt_error a _).1 hf).1⟩

theorem State.sameStream.byte_bind (h : s.sameStream t) {a : Nat} {f : Byte → Res α} {g : Byte → Res β}
    (ha : a < s.inLen.toNat) (hf : ∀ x, s.ReadsStream φ (f x) (g x)) :
    s.ReadsStream φ (s.byteAt a >>= f) (t.byteAt a >>= g) :=
  (h.byteAt ha).bind fun x _ => hf x

theorem State.sameStream.bytesAt (h : s.sameStream t) {a n : Nat} (hfit : n = 0 ∨ a + n ≤ s.inLen.toNat) :
    s.ReadsStream id (s.bytesAt a n) (t.bytesAt a n) := by
  induction n generalizing a with
  | zero => exact .ok _
  | succ n ih => exact h.byte_bind (by omega) fun x => (ih (by omega)).bind fun xs _ => .ok _

theorem State.sameStream.region (h : s.sameStream t) {a n : Nat} (hfit : n = 0 ∨ a + n ≤ s.inLen.toNat) :
    s.ReadsStream id (s.region a n) (t.region a n) := (h.bytesAt hfit).bind fun _ _ => .ok _

theorem State.sameStream.memRead (h : s.sameStream t) (a n : Nat) : s.ReadsStream id (s.memRead a n) (t.memRead a n) :=
  h.need_bind h.region

theorem State.sameStream.gaps (h : s.sameStream t) {a n b : Nat} {il : Bool}
    (hfit : packedSize s.params.bs n b il = 0 ∨ a + packedSize s.params.bs n b il ≤ s.inLen.toNat) :
    s.ReadsStream id (s.gaps a n b il) (t.gaps a n b il) := by
  simp only [State.gaps, h.params]
  exact (h.region hfit).bind fun _ _ => .ok _

/-! ### Scalars (R132, R134) -/

theorem State.sameStream.basevalForm2 (h : s.sameStream t) (c : Nat) (x : Byte) :
    s.ReadsStream id (s.basevalForm2 c x) (t.basevalForm2 c x) :=
  h.need_bind fun _ => h.byte_bind (by omega) fun _ => .ok _

theorem State.sameStream.basevalForm3 (h : s.sameStream t) (c : Nat) (x : Byte) :
    s.ReadsStream id (s.basevalForm3 c x) (t.basevalForm3 c x) :=
  h.need_bind fun _ => h.byte_bind (by omega) fun _ => h.byte_bind (by omega) fun _ => .ok _

theorem State.sameStream.decodeBaseval (h : s.sameStream t) (c : Nat) :
    s.ReadsStream id (s.decodeBaseval c) (t.decodeBaseval c) :=
  h.need_bind fun _ => h.byte_bind (by omega) fun x =>
    .ite (fun _ => .ok _) fun _ => .ite (fun _ => h.basevalForm2 c x) fun _ =>
      .ite (fun _ => h.basevalForm3 c x) fun _ => .raise _ _

theorem State.sameStream.vbForm2 (h : s.sameStream t) (c : Nat) (x : Byte) :
    s.ReadsStream id (s.vbForm2 c x) (t.vbForm2 c x) :=
  h.need_bind fun _ => h.byte_bind (by omega) fun _ => .ok _

theorem State.sameStream.vbForm3 (h : s.sameStream t) (c : Nat) (x : Byte) :
    s.ReadsStream id (s.vbForm3 c x) (t.vbForm3 c x) :=
  h.need_bind fun _ => (h.memRead _ _).bind fun _ _ => .ok _

theorem State.sameStream.vbForm4 (h : s.sameStream t) (c : Nat) : s.ReadsStream id (s.vbForm4 c) (t.vbForm4 c) :=
  h.need_bind fun _ => (h.memRead _ _).bind fun _ _ => .ok _

theorem State.sameStream.vbForm5 (h : s.sameStream t) (c : Nat) : s.ReadsStream id (s.vbForm5 c) (t.vbForm5 c) :=
  h.need_bind fun _ => (h.memRead _ _).bind fun _ _ => .ok _

theorem State.sameStream.decodeVb (h : s.sameStream t) (c : Nat) : s.ReadsStream id (s.decodeVb c) (t.decodeVb c) :=
  h.need_bind fun _ => h.byte_bind (by omega) fun x =>
    .ite (fun _ => .ok _) fun _ => .ite (fun _ => h.vbForm2 c x) fun _ => .ite (fun _ => h.vbForm3 c x) fun _ =>
      .ite (fun _ => h.vbForm4 c) fun _ => .ite (fun _ => h.vbForm5 c) fun _ => .raise _ _

/-! ### Blocks (R171–R181) -/

theorem State.sameStream.constantGaps (h : s.sameStream t) (c num b : Nat) :
    s.ReadsStream id (s.constantGaps c num b) (t.constantGaps c num b) :=
  h.need_bind fun hfit => (h.region hfit).bind fun _ _ => .ok _

theorem State.sameStream.forGaps (h : s.sameStream t) (c num b : Nat) (il : Bool) :
    s.ReadsStream id (s.forGaps c num b il) (t.forGaps c num b il) := by
  simp only [State.forGaps, h.params]
  exact h.need_bind fun hfit => (h.gaps hfit).bind fun _ _ => .ok _

theorem State.sameStream.pforBitmapBody (h : s.sameStream t) (c num b E : Nat) (il : Bool) :
    s.ReadsStream id (s.pforBitmapBody c num b E il) (t.pforBitmapBody c num b E il) := by
  simp only [State.pforBitmapBody, h.params]
  exact h.need_bind fun hbm => (h.region hbm).bind fun _ _ => .ite (fun _ => .raise _ _) fun _ =>
    h.need_bind fun hexc => h.need_bind fun hbase => (h.gaps hbase).bind fun _ _ =>
      (h.gaps (il := false) hexc).bind fun _ _ => .ok _

theorem State.sameStream.pforBitmapGaps (h : s.sameStream t) (c num b : Nat) (il : Bool) :
    s.ReadsStream id (s.pforBitmapGaps c num b il) (t.pforBitmapGaps c num b il) :=
  h.need_bind fun _ => h.byte_bind (by omega) fun e =>
    .ite (fun _ => .raise _ _) fun _ => h.pforBitmapBody c num b e.toNat il

theorem State.sameStream.pforVbBase (h : s.sameStream t) (c num b n : Nat) (il : Bool) :
    s.ReadsStream id (s.pforVbBase c num b n il) (t.pforVbBase c num b n il) := by
  simp only [State.pforVbBase, h.params]
  exact .ite (fun _ => .raise _ _) fun _ => h.need_bind fun hfit => (h.gaps hfit).bind fun _ _ => .ok _

theorem State.sameStream.excEmpty (h : s.sameStream t) (e : Nat) : s.ReadsStream id (s.excEmpty e) (t.excEmpty e) := by
  simp only [State.excEmpty, h.params, h.inLen]
  cases s.params.vbEmpty with
  | noRead => exact .ok _
  | faultOnFf =>
    exact .ite (fun he => h.byte_bind he fun _ => .ite (fun _ => .raise _ _) fun _ => .ok _) fun _ => .ok _
  | consume => exact .ite (fun he => h.byte_bind he fun _ => .ite (fun _ => .ok _) fun _ => .ok _) fun _ => .ok _

theorem State.sameStream.escValues (h : s.sameStream t) (e n : Nat) :
    s.ReadsStream id (s.escValues e n) (t.escValues e n) := by
  induction n generalizing e with
  | zero => exact .ok _
  | succ n ih => exact (h.memRead e 4).bind fun _ _ => (ih _).bind fun _ _ => .ok _

theorem State.sameStream.vbValues (h : s.sameStream t) (e n : Nat) :
    s.ReadsStream id (s.vbValues e n) (t.vbValues e n) := by
  induction n generalizing e with
  | zero => exact .ok _
  | succ n ih => exact (h.decodeVb e).bind fun _ _ => (ih _).bind fun _ _ => .ok _

theorem State.sameStream.excArea (h : s.sameStream t) (e n : Nat) : s.ReadsStream id (s.excArea e n) (t.excArea e n) :=
  .ite (fun _ => (h.excEmpty e).bind fun _ _ => .ok _) fun _ => h.need_bind fun _ => h.byte_bind (by omega) fun _ =>
    .ite (fun _ => h.escValues _ n) fun _ => h.vbValues e n

theorem State.sameStream.patchFrom (h : s.sameStream t) (num b : Nat) (g : List Word) (e : Nat) (xs : List Word)
    (hfit : xs.length = 0 ∨ e + xs.length ≤ s.inLen.toNat) :
    s.ReadsStream id (s.patchFrom num b g e xs) (t.patchFrom num b g e xs) := by
  induction xs generalizing g e with
  | nil => exact .ok _
  | cons x xs ih =>
    rw [List.length_cons] at hfit
    exact h.byte_bind (by omega) fun i => .ite (fun _ => .raise _ _) fun _ => ih _ _ (by omega)

theorem State.sameStream.pforVbPatch (h : s.sameStream t) (num b : Nat) (g xs : List Word) (e : Nat) :
    s.ReadsStream id (s.pforVbPatch num b g xs e) (t.pforVbPatch num b g xs e) :=
  h.need_bind fun hfit => h.patchFrom num b g e xs hfit

theorem State.sameStream.pforVbGaps (h : s.sameStream t) (c num b : Nat) (il : Bool) :
    s.ReadsStream id (s.pforVbGaps c num b il) (t.pforVbGaps c num b il) :=
  h.need_bind fun _ => h.byte_bind (by omega) fun n => (h.pforVbBase c num b n.toNat il).bind fun p _ =>
    (h.excArea p.2 n.toNat).bind fun q _ => h.pforVbPatch num b p.1 q.1 q.2

theorem State.sameStream.blockGaps (h : s.sameStream t) (ty : BlockType) (c num b : Nat) (useIL : Bool) :
    s.ReadsStream id (s.blockGaps ty c num b useIL) (t.blockGaps ty c num b useIL) := by
  cases ty with
  | constant => exact h.constantGaps c num b
  | for_ => exact h.forGaps c num b useIL
  | pforBitmap => exact h.pforBitmapGaps c num b useIL
  | pforVb => exact h.pforVbGaps c num b useIL

theorem State.sameStream.decodeBlock (h : s.sameStream t) (c num : Nat) (il : Bool) (prev : Word) :
    s.ReadsStream id (s.decodeBlock c num il prev) (t.decodeBlock c num il prev) := by
  simp only [State.decodeBlock, h.params]
  exact h.need_bind fun _ => h.byte_bind (by omega) fun x => .ite (fun _ => .raise _ _) fun _ =>
    (h.blockGaps (decodeType x) c num _ _).bind fun _ _ => .ok _

/-! ### The sequence driver (R210) -/

theorem State.sameStream.seqBlocks (h : s.sameStream t) (il : Bool) (k m cur : Nat) (prev : Word) :
    s.ReadsStream id (s.seqBlocks il k m cur prev) (t.seqBlocks il k m cur prev) := by
  induction k generalizing m cur prev with
  | zero => exact .ok _
  | succ k ih =>
    simp only [State.seqBlocks, h.params]
    exact .ite (fun _ => .ok _) fun _ => (h.decodeBlock cur _ il prev).bind fun _ _ => (ih _ _ _).bind fun _ _ => .ok _

theorem State.sameStream.decodeSeq (h : s.sameStream t) (c n : Nat) (il : Bool) :
    s.ReadsStream id (s.decodeSeq c n il) (t.decodeSeq c n il) := by
  simp only [State.decodeSeq, h.params]
  exact (h.decodeBaseval c).bind fun _ _ => (h.seqBlocks il _ _ _ _).bind fun _ _ => .ok _

end Rules

end Sys2Proof.Machine

/-! How much the stream decoders answer and consume (R171, R210, R216): the number of values and the end cursor. -/

namespace Sys2Proof.Machine

variable {s : State}

/-! ### Sequencing -/

/-- A `Need` and what follows it answer where the `Need` is met and the rest answers (R12). -/
theorem State.need_bind_eq_ok {α : Type} {a n : Nat} {f : Unit → Res α} {r : α} :
    s.need a n >>= f = .ok r ↔ (n = 0 ∨ a + n ≤ s.inLen.toNat) ∧ f () = .ok r := by
  simp only [Res.bind_eq_ok, State.need_ok, exists_and_left]
  exact and_congr_right fun _ => ⟨fun ⟨_, h⟩ => h, fun h => ⟨(), h⟩⟩

theorem State.byte_bind_eq_ok {α : Type} {a : Nat} {f : Byte → Res α} {r : α} :
    s.byteAt a >>= f = .ok r ↔ ∃ x, s.ibuf.read a = some x ∧ f x = .ok r := by
  simp only [Res.bind_eq_ok, State.byteAt_ok]

/-- A check passed. -/
theorem ite_raise_eq_ok {α : Type} {c : Prop} [Decidable c] {code : FaultCode} {off : Nat} {x : Res α} {r : α} :
    (if c then raise code off else x) = .ok r ↔ ¬ c ∧ x = .ok r := by
  split <;> simp [*]

/-! ### Scalars (R132, R134) -/

theorem State.decodeBaseval_end {c len : Nat} {v : Word} (h : s.decodeBaseval c = .ok (v, len)) :
    1 ≤ len ∧ c + len ≤ s.inLen.toNat := by
  obtain ⟨hc, h⟩ := State.need_bind_eq_ok.1 h
  obtain ⟨x, -, h⟩ := State.byte_bind_eq_ok.1 h
  split_ifs at h
  · cases h; omega
  · obtain ⟨hfit, h⟩ := State.need_bind_eq_ok.1 h
    obtain ⟨_, -, h⟩ := State.byte_bind_eq_ok.1 h
    cases h; omega
  · obtain ⟨hfit, h⟩ := State.need_bind_eq_ok.1 h
    obtain ⟨_, -, h⟩ := State.byte_bind_eq_ok.1 h
    obtain ⟨_, -, h⟩ := State.byte_bind_eq_ok.1 h
    cases h; omega
  · cases h

theorem State.decodeVb_end {c len : Nat} {v : Word} (h : s.decodeVb c = .ok (v, len)) :
    1 ≤ len ∧ c + len ≤ s.inLen.toNat := by
  obtain ⟨hc, h⟩ := State.need_bind_eq_ok.1 h
  obtain ⟨x, -, h⟩ := State.byte_bind_eq_ok.1 h
  split_ifs at h
  · cases h; omega
  · obtain ⟨hfit, h⟩ := State.need_bind_eq_ok.1 h
    obtain ⟨_, -, h⟩ := State.byte_bind_eq_ok.1 h
    cases h; omega
  iterate 3
    · obtain ⟨hfit, h⟩ := State.need_bind_eq_ok.1 h
      obtain ⟨_, -, h⟩ := (Res.bind_eq_ok _ _ _).1 h
      obtain ⟨-, rfl⟩ := Prod.mk.inj (Except.ok.inj h)
      omega
  · cases h

/-! ### Exception areas (R180) and index bytes (R178) -/

theorem State.escValues_end {e n e' : Nat} {xs : List Word} (h : s.escValues e n = .ok (xs, e'))
    (he : e ≤ s.inLen.toNat) : e ≤ e' ∧ e' ≤ s.inLen.toNat := by
  induction n generalizing e xs with
  | zero => cases h; omega
  | succ n ih =>
    obtain ⟨v, hv, h⟩ := (Res.bind_eq_ok _ _ _).1 h
    obtain ⟨⟨vs, e1⟩, hvs, h⟩ := (Res.bind_eq_ok _ _ _).1 h
    obtain ⟨hfit, -⟩ := State.need_bind_eq_ok.1 hv
    cases h
    have := ih hvs (by omega)
    omega

theorem State.vbValues_end {e n e' : Nat} {xs : List Word} (h : s.vbValues e n = .ok (xs, e'))
    (he : e ≤ s.inLen.toNat) : e ≤ e' ∧ e' ≤ s.inLen.toNat := by
  induction n generalizing e xs with
  | zero => cases h; omega
  | succ n ih =>
    obtain ⟨⟨v, len⟩, hv, h⟩ := (Res.bind_eq_ok _ _ _).1 h
    obtain ⟨⟨vs, e1⟩, hvs, h⟩ := (Res.bind_eq_ok _ _ _).1 h
    have hlen := State.decodeVb_end hv
    cases h
    have := ih hvs (by omega)
    omega

/-- An empty exception area ends where it starts, or after a byte it consumes. -/
theorem State.excEmpty_end {e e' : Nat} (h : s.excEmpty e = .ok e') (he : e ≤ s.inLen.toNat) :
    e ≤ e' ∧ e' ≤ s.inLen.toNat := by
  unfold State.excEmpty at h
  split at h
  · cases h; omega
  · split_ifs at h
    · obtain ⟨x, -, h⟩ := State.byte_bind_eq_ok.1 h
      obtain ⟨-, h⟩ := ite_raise_eq_ok.1 h
      cases h; omega
    · cases h; omega
  · split_ifs at h
    · obtain ⟨x, -, h⟩ := State.byte_bind_eq_ok.1 h
      split_ifs at h <;> cases h <;> omega
    · cases h; omega

theorem State.excArea_end {e n e' : Nat} {xs : List Word} (h : s.excArea e n = .ok (xs, e')) (he : e ≤ s.inLen.toNat) :
    e ≤ e' ∧ e' ≤ s.inLen.toNat := by
  unfold State.excArea at h
  split_ifs at h
  · obtain ⟨e1, he1, h⟩ := (Res.bind_eq_ok _ _ _).1 h
    cases h
    exact State.excEmpty_end he1 he
  · obtain ⟨hfit, h⟩ := State.need_bind_eq_ok.1 h
    obtain ⟨x, -, h⟩ := State.byte_bind_eq_ok.1 h
    split_ifs at h
    · have := State.escValues_end h (by omega)
      omega
    · exact State.vbValues_end h he

/-- The index bytes keep the number of gaps, and end by IN_LEN where the exception values do. -/
theorem State.pforVbPatch_shape {num b e e' : Nat} {g xs g' : List Word}
    (h : s.pforVbPatch num b g xs e = .ok (g', e')) (he : e ≤ s.inLen.toNat) :
    g'.length = g.length ∧ e ≤ e' ∧ e' ≤ s.inLen.toNat := by
  obtain ⟨hfit, h⟩ := State.need_bind_eq_ok.1 h
  obtain ⟨hlen, rfl⟩ := s.patchFrom_length _ _ _ _ _ _ _ h
  omega

/-! ### Blocks (R171) -/

theorem State.constantGaps_shape {c num b e : Nat} {g : List Word} (h : s.constantGaps c num b = .ok (g, e))
    (hc : c < s.inLen.toNat) : g.length = num ∧ c < e ∧ e ≤ s.inLen.toNat := by
  obtain ⟨hfit, ⟨v, -, rfl⟩, rfl⟩ := (s.constantGaps_ok _ _ _ _ _).1 h
  refine ⟨List.length_replicate, ?_⟩
  omega

/-- How many fields `Gaps` answers where the interleaved flavour has a full block. -/
theorem State.gaps_length {a n b : Nat} {il : Bool} {g : List Word} (h : s.gaps a n b il = .ok g)
    (hil : il = true → n = s.params.bs) : g.length = n := by
  obtain ⟨r, -, rfl⟩ := (s.gaps_ok _ _ _ _ _).1 h
  rw [unpackFields_length]
  split
  · exact (hil ‹_›).symm
  · rfl

theorem State.forGaps_shape {c num b e : Nat} {il : Bool} {g : List Word} (h : s.forGaps c num b il = .ok (g, e))
    (hil : il = true → num = s.params.bs) (hc : c < s.inLen.toNat) : g.length = num ∧ c < e ∧ e ≤ s.inLen.toNat := by
  obtain ⟨hfit, hg, rfl⟩ := (s.forGaps_ok _ _ _ _ _ _).1 h
  refine ⟨State.gaps_length hg hil, ?_⟩
  omega

theorem State.pforBitmapBody_shape {c num b E e : Nat} {il : Bool} {g : List Word}
    (h : s.pforBitmapBody c num b E il = .ok (g, e)) (hil : il = true → num = s.params.bs)
    (hc : c + 1 < s.inLen.toNat) : g.length = num ∧ c < e ∧ e ≤ s.inLen.toNat := by
  obtain ⟨nbm, bm, pos, ne, nb, base, hs, -, hbm, -, -, -, -, hne, -, hnb, hbase, -, rfl, rfl⟩ :=
    (s.pforBitmapBody_ok _ _ _ _ _ _ _).1 h
  refine ⟨(orAll_length _ _ _).trans (State.gaps_length hbase hil), ?_⟩
  omega

theorem State.pforBitmapGaps_shape {c num b e : Nat} {il : Bool} {g : List Word}
    (h : s.pforBitmapGaps c num b il = .ok (g, e)) (hil : il = true → num = s.params.bs) :
    g.length = num ∧ c < e ∧ e ≤ s.inLen.toNat := by
  obtain ⟨hfit, h⟩ := State.need_bind_eq_ok.1 h
  obtain ⟨x, -, h⟩ := State.byte_bind_eq_ok.1 h
  obtain ⟨-, h⟩ := ite_raise_eq_ok.1 h
  exact State.pforBitmapBody_shape h hil (by omega)

/-- The base values of a PFOR_VB block, its NEXC byte below IN_LEN. -/
theorem State.pforVbBase_shape {c num b n e : Nat} {il : Bool} {g : List Word}
    (h : s.pforVbBase c num b n il = .ok (g, e)) (hil : il = true → num = s.params.bs) (hc : c + 1 < s.inLen.toNat) :
    g.length = num ∧ c < e ∧ e ≤ s.inLen.toNat := by
  obtain ⟨-, hfit, hg, rfl⟩ := (s.pforVbBase_ok _ _ _ _ _ _ _).1 h
  refine ⟨State.gaps_length hg hil, ?_⟩
  omega

theorem State.pforVbGaps_shape {c num b e : Nat} {il : Bool} {g : List Word}
    (h : s.pforVbGaps c num b il = .ok (g, e)) (hil : il = true → num = s.params.bs) :
    g.length = num ∧ c < e ∧ e ≤ s.inLen.toNat := by
  obtain ⟨hfit, h⟩ := State.need_bind_eq_ok.1 h
  obtain ⟨n, -, h⟩ := State.byte_bind_eq_ok.1 h
  obtain ⟨⟨g0, e0⟩, hbase, h⟩ := (Res.bind_eq_ok _ _ _).1 h
  obtain ⟨⟨xs, e1⟩, harea, h⟩ := (Res.bind_eq_ok _ _ _).1 h
  obtain ⟨hlen, hce, he0⟩ := State.pforVbBase_shape hbase hil (by omega)
  have he1 := State.excArea_end harea he0
  have hpatch := State.pforVbPatch_shape h he1.2
  omega

theorem State.blockGaps_shape {ty : BlockType} {c num b e : Nat} {useIL : Bool} {g : List Word}
    (h : s.blockGaps ty c num b useIL = .ok (g, e)) (hil : useIL = true → num = s.params.bs) (hc : c < s.inLen.toNat) :
    g.length = num ∧ c < e ∧ e ≤ s.inLen.toNat := by
  cases ty with
  | constant => exact State.constantGaps_shape h hc
  | for_ => exact State.forGaps_shape h hil hc
  | pforBitmap => exact State.pforBitmapGaps_shape h hil
  | pforVb => exact State.pforVbGaps_shape h hil

/-- A block's shape: as many identifiers as asked for, and a cursor that moves on and stays by IN_LEN. -/
theorem State.decodeBlock_shape {c num e : Nat} {il : Bool} {prev : Word} {out : List Word}
    (h : s.decodeBlock c num il prev = .ok (out, e)) : out.length = num ∧ c < e ∧ e ≤ s.inLen.toNat := by
  obtain ⟨hc, x, -, -, g, hg, rfl⟩ := (s.decodeBlock_ok _ _ _ _ _ _).1 h
  rw [scan_length]
  refine State.blockGaps_shape hg (fun hil => ?_) hc
  simp only [Bool.and_eq_true, decide_eq_true_iff] at hil
  exact hil.1.2

/-! ### The sequence driver (R210, R211) -/

theorem Params.bs_pos (p : Params) : 1 ≤ p.bs := by
  cases h : p.blockSize <;> simp [Params.bs, BlockSize.toNat, h]

/-- One block less to decode is one turn less (R211). -/
theorem ceilDiv_sub_min {m bs k : Nat} (hbs : 1 ≤ bs) (h : ceilDiv m bs ≤ k + 1) : ceilDiv (m - min m bs) bs ≤ k := by
  unfold ceilDiv at *
  obtain hle | hlt := le_or_gt m bs
  · rw [Nat.min_eq_left hle, Nat.sub_self, Nat.div_eq_of_lt (by omega)]
    exact Nat.zero_le k
  · have hm : m + bs - 1 = m - bs + bs - 1 + bs := by omega
    rw [hm, Nat.add_div_right _ hbs] at h
    rw [Nat.min_eq_right hlt.le]
    exact Nat.succ_le_succ_iff.1 h

theorem State.seqBlocks_length {il : Bool} {k m cur e : Nat} {prev : Word} {ids : List Word}
    (h : s.seqBlocks il k m cur prev = .ok (ids, e)) (hk : ceilDiv m s.params.bs ≤ k) : ids.length = m := by
  induction k generalizing m cur prev ids with
  | zero =>
    cases h
    have hbs := Params.bs_pos s.params
    have : (m + s.params.bs - 1) / s.params.bs < 1 := Nat.lt_succ_of_le hk
    rw [Nat.div_lt_iff_lt_mul hbs] at this
    simp
    omega
  | succ k ih =>
    unfold State.seqBlocks at h
    split_ifs at h with hm
    · cases h; simp [hm]
    · obtain ⟨⟨blk, cur'⟩, hblk, h⟩ := (Res.bind_eq_ok _ _ _).1 h
      obtain ⟨⟨rest, e'⟩, hrest, h⟩ := (Res.bind_eq_ok _ _ _).1 h
      cases h
      have hlen := (State.decodeBlock_shape hblk).1
      have hrestLen := ih hrest (ceilDiv_sub_min (Params.bs_pos s.params) hk)
      simp only [List.length_append] at *
      omega

theorem State.decodeSeq_length {c n e : Nat} {il : Bool} {out : List Word} (h : s.decodeSeq c n il = .ok (out, e))
    (hn : 1 ≤ n) : out.length = n := by
  obtain ⟨v, len, ids, -, hids, rfl⟩ := (s.decodeSeq_ok _ _ _ _ _).1 h
  have := State.seqBlocks_length hids le_rfl
  rw [List.length_cons]
  omega

/-! ### The obligation -/

/-- Settles O38: type by type, the block's parts are asked for before they are read. -/
theorem decodedBlockShape : Obligations.DecodedBlockShape := fun _ _ _ _ _ _ _ => State.decodeBlock_shape

end Sys2Proof.Machine

/-! Commands as wholes (spec/60_exceptions.md sections 1 and 2): how each ends, and what it stages. -/

namespace Sys2Proof.Machine

/-! ### What a command stages -/

/-- The state `u` is `s` with `out` written at OUT_IDX and the registers that commands write as they please. -/
structure State.Staged (s u : State) (out : List Word) : Prop where
  obuf : u.obuf = s.obuf.writeAll s.outIdx.toNat out
  frame : u = { s with
    cur := u.cur
    outIdx := u.outIdx
    prev := u.prev
    resultLo := u.resultLo
    resultHi := u.resultHi
    consumed := u.consumed
    obuf := u.obuf }

section Staging

variable (s : State)

theorem State.staged_commitIds (out : List Word) (e : Nat) : s.Staged (s.commitIds out e) out := ⟨rfl, rfl⟩

theorem State.staged_commitScalar (v : Word) (len : Nat) : s.Staged (s.commitScalar v len) [] := ⟨rfl, rfl⟩

theorem State.staged_commitFields (g : List Word) (n size : Nat) : s.Staged (s.commitFields g n size) g := ⟨rfl, rfl⟩

end Staging

/-- The same state with another IBUF. -/
def State.withIbuf (s : State) (m : Memory Byte) : State := { s with ibuf := m }

@[simp] theorem State.withIbuf_obuf (s : State) (m : Memory Byte) : (s.withIbuf m).obuf = s.obuf := rfl

/-! ### The commands' pseudocode -/

/-- The pseudocode of a command; stream items have none. -/
def State.pseudocode (s : State) : Instr → Res State
  | .ldle _ => s.ldle
  | .baseval _ => s.baseval
  | .vb _ => s.vb
  | .unpack _ => s.unpack
  | .unpackIl _ => s.unpackIl
  | .scan _ => s.scanCmd
  | .block => s.blockCmd false
  | .blockIl => s.blockCmd true
  | .seq => s.seqCmd false
  | .seqIl => s.seqCmd true
  | _ => unexpected

/-- A command ends as its pseudocode does. -/
theorem exec_command {i : Instr} (s : State) (h : i.isCommand = true) :
    exec i s = s.finish (s.writeSet i) (s.pseudocode i) := by
  cases i with
  | ldle | baseval | vb | unpack | unpackIl | scan | block | blockIl | seq | seqIl => rfl
  | _ => cases h

/-- An ILLEGAL_CMD word has one meaning (R226). -/
theorem exec_illegal {i : Instr} (s : State) (h : i.isIllegalCmd = true) : exec i s = s.illegalCmd := by
  unfold Instr.isIllegalCmd at h
  cases i with
  | illegalOp0 | illegalOp9 | illegalOpAB | illegalOpCF | illegalRsv5 | illegalRsv6 | illegalRsv7 | illegalRsv8
  | illegalRsv9 | illegalRsv10 | illegalRsv11 | illegalRsv12 | illegalRsv13 | illegalRsv14 | illegalRsv15
  | illegalRsv16 | illegalRsv17 | illegalRsv18 | illegalRsv19 | illegalRsv20 | illegalRsv21 | illegalRsv22
  | illegalRsv23 | illegalRsv24 | illegalRsv25 | illegalRsv26 | illegalRsv27 | illegalRsv28 | illegalRsv29
  | illegalRsv30 | illegalRsv31 => rfl
  | _ => cases h

section Pseudocode

variable {s u : State}

/-! ### SCAN (R182) -/

theorem State.scanCmd_of_fits (hout : s.outIdx.toNat + s.count.toNat ≤ s.params.outCap) :
    s.scanCmd = s.wordsAt s.outIdx.toNat s.count.toNat >>= fun g => .ok { s.writeOut (scan s.prev g) with
      prev := (scan s.prev g).getLastD s.prev
      outIdx := BitVec.ofNat 32 (s.outIdx.toNat + s.count.toNat)
      consumed := 0 } := by
  rw [State.scanCmd, (s.checkOut_ok _ ()).2 hout, Res.bind_ok]

theorem State.scanCmd_outRange (hout : s.params.outCap < s.outIdx.toNat + s.count.toNat) :
    s.scanCmd = .error (.engine .outRange s.cur.toNat) := by
  rw [State.scanCmd, (s.checkOut_error _ _).2 ⟨hout, rfl⟩, Res.bind_error]

/-- The words are read in rising order, up to the first that was never written (R62). -/
theorem State.wordsAt_unwritten {o n k : Nat} (hk : k < n) (hnone : s.obuf.read (o + k) = none)
    (hsome : ∀ j, j < k → (s.obuf.read (o + j)).isSome = true) :
    s.wordsAt o n = .error (.model (.unwrittenWord (o + k))) := by
  induction n generalizing o k with
  | zero => exact absurd hk (Nat.not_lt_zero k)
  | succ n ih =>
    unfold State.wordsAt
    cases k with
    | zero =>
      rw [show s.obuf.read o = none from hnone]
      rfl
    | succ k =>
      obtain ⟨w, hw⟩ := Option.isSome_iff_exists.1 (hsome 0 (Nat.succ_pos k))
      have hrest := ih (o := o + 1) (Nat.lt_of_succ_lt_succ hk) (by rw [← hnone]; congr 1; omega)
        fun j hj => by simpa only [Nat.add_right_comm, Nat.add_assoc] using hsome (j + 1) (Nat.succ_lt_succ hj)
      rw [show s.obuf.read o = some w from hw]
      simp only [hrest, Res.bind_error]
      congr 3
      omega

/-- Written words are all read. -/
theorem State.wordsAt_of_written {o n : Nat} (h : ∀ k, k < n → (s.obuf.read (o + k)).isSome = true) :
    ∃ g, s.wordsAt o n = .ok g := by
  refine ⟨(List.range n).map fun k => (s.obuf.read (o + k)).getD 0, (s.wordsAt_ok _ _ _).2 ⟨by simp, fun k hk => ?_⟩⟩
  obtain ⟨w, hw⟩ := Option.isSome_iff_exists.1 (h k hk)
  simp [hk, hw]

/-! ### The checks of BLOCK and SEQ (R183, R210) -/

/-- BLOCK's checks are passed with a legal COUNT and room for its output. -/
theorem State.blockChecks_ok_iff : s.blockChecks = .ok () ↔
    s.inLen.toNat ≤ s.params.inCap ∧ 1 ≤ s.count.toNat ∧ s.count.toNat ≤ s.params.bs ∧
      s.outIdx.toNat + s.count.toNat ≤ s.params.outCap := by
  simp only [State.blockChecks, Res.bind_eq_ok, State.checkInLen_ok, ite_raise_eq_ok, State.checkOut_ok]
  constructor
  · rintro ⟨_, hcap, hcount, hout⟩
    omega
  · rintro ⟨hcap, hpos, hle, hout⟩
    exact ⟨(), hcap, by omega, hout⟩

theorem State.seqChecks_ok_iff : s.seqChecks = .ok () ↔
    s.inLen.toNat ≤ s.params.inCap ∧ s.outIdx.toNat + s.count.toNat ≤ s.params.outCap := by
  simp only [State.seqChecks, Res.bind_eq_ok, State.checkInLen_ok, State.checkOut_ok]
  exact ⟨fun ⟨_, h⟩ => h, fun h => ⟨(), h⟩⟩

/-- Its checks passed, SEQ decodes the sequence at CUR and stages it; one of no identifier stages nothing. -/
theorem State.seqCmd_of_seqChecks_ok {il : Bool} (h : s.seqChecks = .ok ()) :
    s.seqCmd il = if s.count.toNat = 0 then .ok { s with consumed := 0 }
      else s.decodeSeq s.cur.toNat s.count.toNat il >>= fun p => .ok (s.commitIds p.1 p.2) := by
  rw [State.seqCmd, h, Res.bind_ok]

theorem State.seqCmd_outRange {il : Bool} (hcap : s.inLen.toNat ≤ s.params.inCap)
    (hout : s.params.outCap < s.outIdx.toNat + s.count.toNat) :
    s.seqCmd il = .error (.engine .outRange s.cur.toNat) := by
  rw [State.seqCmd, State.seqChecks, s.checkInLen_bind_of_le _ hcap, (s.checkOut_error _ _).2 ⟨hout, rfl⟩,
    Res.bind_error]

/-! ### What each command stages on success -/

theorem State.unpackInto_staged {n : Nat} {il : Bool} (h : s.unpackInto n il = .ok u)
    (hn : il = true → n = s.params.bs) :
    ∃ out, s.Staged u out ∧ out.length = n ∧ (out = [] ∨ s.outIdx.toNat + out.length ≤ s.params.outCap) := by
  obtain ⟨_, hout, h⟩ := (Res.bind_eq_ok _ _ _).1 h
  obtain ⟨-, h⟩ := State.need_bind_eq_ok.1 h
  obtain ⟨g, hg, h⟩ := (Res.bind_eq_ok _ _ _).1 h
  cases h
  have hlen := State.gaps_length hg hn
  exact ⟨g, s.staged_commitFields g _ _, hlen, .inr (hlen ▸ (s.checkOut_ok n _).1 hout)⟩

/-- A command that succeeds stages as many words as its write set has, and they fit OBUF (R77, R226). -/
theorem State.pseudocode_staged {i : Instr} (h : s.pseudocode i = .ok u) :
    ∃ out, s.Staged u out ∧ out.length = s.writeSet i ∧
      (out = [] ∨ s.outIdx.toNat + out.length ≤ s.params.outCap) := by
  cases i with
  | ldle il =>
    obtain ⟨_, -, h⟩ := (Res.bind_eq_ok _ _ _).1 h
    split_ifs at h
    · obtain ⟨v, -, h⟩ := (Res.bind_eq_ok _ _ _).1 h
      cases h
      exact ⟨[], ⟨rfl, rfl⟩, rfl, .inl rfl⟩
    · cases h
  | baseval il | vb il =>
    obtain ⟨_, -, h⟩ := (Res.bind_eq_ok _ _ _).1 h
    obtain ⟨p, -, h⟩ := (Res.bind_eq_ok _ _ _).1 h
    cases h
    exact ⟨[], s.staged_commitScalar _ _, rfl, .inl rfl⟩
  | unpack il =>
    obtain ⟨_, -, h⟩ := (Res.bind_eq_ok _ _ _).1 h
    obtain ⟨-, h⟩ := ite_raise_eq_ok.1 h
    exact State.unpackInto_staged h nofun
  | unpackIl il =>
    obtain ⟨_, -, h⟩ := (Res.bind_eq_ok _ _ _).1 h
    obtain ⟨-, h⟩ := ite_raise_eq_ok.1 h
    obtain ⟨-, h⟩ := ite_raise_eq_ok.1 h
    exact State.unpackInto_staged h fun _ => rfl
  | scan il =>
    obtain ⟨_, hout, h⟩ := (Res.bind_eq_ok _ _ _).1 h
    obtain ⟨g, hg, h⟩ := (Res.bind_eq_ok _ _ _).1 h
    cases h
    have hlen : (scan s.prev g).length = s.count.toNat := (scan_length _ _).trans ((s.wordsAt_ok _ _ _).1 hg).1
    exact ⟨scan s.prev g, ⟨rfl, rfl⟩, hlen, .inr (hlen ▸ (s.checkOut_ok _ _).1 hout)⟩
  | block | blockIl =>
    obtain ⟨_, hchecks, h⟩ := (Res.bind_eq_ok _ _ _).1 h
    obtain ⟨⟨out, e⟩, hblock, h⟩ := (Res.bind_eq_ok _ _ _).1 h
    cases h
    have hlen := (State.decodeBlock_shape hblock).1
    obtain ⟨-, -, -, hout⟩ := State.blockChecks_ok_iff.1 hchecks
    exact ⟨out, s.staged_commitIds _ _, hlen, .inr (hlen ▸ hout)⟩
  | seq | seqIl =>
    obtain ⟨_, hchecks, h⟩ := (Res.bind_eq_ok _ _ _).1 h
    obtain ⟨-, hout⟩ := State.seqChecks_ok_iff.1 hchecks
    split_ifs at h with hzero
    · cases h
      exact ⟨[], ⟨rfl, rfl⟩, hzero.symm, .inl rfl⟩
    · obtain ⟨⟨out, e⟩, hseq, h⟩ := (Res.bind_eq_ok _ _ _).1 h
      cases h
      have hlen := State.decodeSeq_length hseq (Nat.one_le_iff_ne_zero.2 hzero)
      exact ⟨out, s.staged_commitIds _ _, hlen, .inr (hlen ▸ hout)⟩
  | _ => cases h

/-- Everything a command can do when it answers a next state. -/
theorem exec_command_next {i : Instr} {t : State} (hi : i.isCommand = true) (h : exec i s = .next t) :
    (∃ u out, t = u.complete ∧ s.Staged u out ∧ out.length = s.writeSet i ∧
        (out = [] ∨ s.outIdx.toNat + out.length ≤ s.params.outCap)) ∨
      ∃ code off, t = s.faultEntry code off (s.writeSet i) := by
  rw [exec_command s hi, State.finish_next] at h
  obtain ⟨u, hu, rfl⟩ | ⟨code, off, -, rfl⟩ := h
  · obtain ⟨out, hout⟩ := State.pseudocode_staged hu
    exact .inl ⟨u, out, rfl, hout⟩
  · exact .inr ⟨code, off, rfl⟩

/-! ### The prologue (R241) -/

theorem State.checkInLen_bind_oversized {α : Type} (f : Unit → Res α) (h : s.params.inCap < s.inLen.toNat) :
    s.checkInLen >>= f = .error (.engine .badParam s.cur.toNat) := by
  rw [(s.checkInLen_error _).2 ⟨h, rfl⟩, Res.bind_error]

/-- Every command but SCAN begins with the prologue. -/
theorem State.pseudocode_oversized {i : Instr} (hi : i.isCommand = true) (hscan : ∀ il, i ≠ .scan il)
    (h : s.params.inCap < s.inLen.toNat) : s.pseudocode i = .error (.engine .badParam s.cur.toNat) := by
  cases i with
  | ldle | baseval | vb | unpack | unpackIl => exact State.checkInLen_bind_oversized _ h
  | block | blockIl =>
    exact State.blockCmd_of_blockChecks_error (State.checkInLen_bind_oversized _ h)
  | seq | seqIl =>
    have hchecks : s.seqChecks = .error (.engine .badParam s.cur.toNat) := State.checkInLen_bind_oversized _ h
    simp only [State.pseudocode, State.seqCmd, hchecks, Res.bind_error]
  | scan il => exact absurd rfl (hscan il)
  | _ => cases hi

/-! ### What a command reads (R62, R74) -/

theorem State.sameStream_withIbuf {m : Memory Byte} (hm : ∀ a, a < s.inLen.toNat → m.read a = s.ibuf.read a) :
    s.sameStream (s.withIbuf m) := ⟨rfl, rfl, hm⟩

/-- The checks before the stream do not read it. -/
theorem State.ReadsStream.checkInLen (s : State) (m : Memory Byte) :
    s.ReadsStream id s.checkInLen (s.withIbuf m).checkInLen :=
  .of_eq rfl fun f h => by cases ((s.checkInLen_error _).1 h).2

theorem State.ReadsStream.checkOut (s : State) (m : Memory Byte) (n : Nat) :
    s.ReadsStream id (s.checkOut n) ((s.withIbuf m).checkOut n) :=
  .of_eq rfl fun f h => by cases ((s.checkOut_error _ _).1 h).2

/-- A command other than SCAN reads the stream and nothing of IBUF beyond it; what it stages keeps the other bytes. -/
theorem State.pseudocode_readsStream {i : Instr} {m : Memory Byte}
    (hm : ∀ a, a < s.inLen.toNat → m.read a = s.ibuf.read a) (hscan : ∀ il, i ≠ .scan il) (hi : i.isCommand = true) :
    s.ReadsStream (·.withIbuf m) (s.pseudocode i) ((s.withIbuf m).pseudocode i) := by
  have h := State.sameStream_withIbuf hm
  have hinto (n : Nat) (il : Bool) :
      s.ReadsStream (·.withIbuf m) (s.unpackInto n il) ((s.withIbuf m).unpackInto n il) :=
    (State.ReadsStream.checkOut s m n).bind fun _ _ => h.need_bind fun hfit => (h.gaps hfit).bind fun _ _ => .ok _
  have hblock (il : Bool) : s.ReadsStream (·.withIbuf m) (s.blockCmd il) ((s.withIbuf m).blockCmd il) := by
    have hchecks : s.ReadsStream id s.blockChecks (s.withIbuf m).blockChecks :=
      (State.ReadsStream.checkInLen s m).bind fun _ _ => .ite (fun _ => .raise _ _) fun _ => .checkOut s m _
    exact hchecks.bind fun _ _ => (h.decodeBlock _ _ il s.prev).bind fun _ _ => .ok _
  have hseq (il : Bool) : s.ReadsStream (·.withIbuf m) (s.seqCmd il) ((s.withIbuf m).seqCmd il) := by
    have hchecks : s.ReadsStream id s.seqChecks (s.withIbuf m).seqChecks :=
      (State.ReadsStream.checkInLen s m).bind fun _ _ => .checkOut s m _
    exact hchecks.bind fun _ _ => .ite (fun _ => .ok _) fun _ => (h.decodeSeq _ _ il).bind fun _ _ => .ok _
  cases i with
  | ldle =>
    exact (State.ReadsStream.checkInLen s m).bind fun _ _ =>
      .ite (fun _ => (h.memRead _ _).bind fun _ _ => .ok _) fun _ => .raise _ _
  | baseval => exact (State.ReadsStream.checkInLen s m).bind fun _ _ => (h.decodeBaseval _).bind fun _ _ => .ok _
  | vb => exact (State.ReadsStream.checkInLen s m).bind fun _ _ => (h.decodeVb _).bind fun _ _ => .ok _
  | unpack =>
    exact (State.ReadsStream.checkInLen s m).bind fun _ _ => .ite (fun _ => .raise _ _) fun _ => hinto _ false
  | unpackIl =>
    exact (State.ReadsStream.checkInLen s m).bind fun _ _ => .ite (fun _ => .raise _ _) fun _ =>
      .ite (fun _ => .raise _ _) fun _ => hinto _ true
  | block => exact hblock false
  | blockIl => exact hblock true
  | seq => exact hseq false
  | seqIl => exact hseq true
  | scan il => exact absurd rfl (hscan il)
  | _ => cases hi

theorem State.wordsAt_withIbuf (m : Memory Byte) (o n : Nat) : (s.withIbuf m).wordsAt o n = s.wordsAt o n := by
  induction n generalizing o with
  | zero => rfl
  | succ n ih => simp only [State.wordsAt, ih, State.withIbuf_obuf]

/-- A command on a state with other bytes at and above IN_LEN ends as it does without them (R74). -/
theorem State.pseudocode_withIbuf {i : Instr} {m : Memory Byte}
    (hm : ∀ a, a < s.inLen.toNat → m.read a = s.ibuf.read a) (hi : i.isCommand = true) :
    (s.withIbuf m).pseudocode i = (s.pseudocode i).map (·.withIbuf m) := by
  by_cases hscan : ∀ il, i ≠ .scan il
  · exact (State.pseudocode_readsStream hm hscan hi).same
  · push Not at hscan
    obtain ⟨il, rfl⟩ := hscan
    have hout : (s.withIbuf m).checkOut s.count.toNat = s.checkOut s.count.toNat := rfl
    change (s.withIbuf m).scanCmd = s.scanCmd.map (·.withIbuf m)
    unfold State.scanCmd
    change ((s.withIbuf m).checkOut s.count.toNat >>= fun _ =>
      (s.withIbuf m).wordsAt s.outIdx.toNat s.count.toNat >>= _) = _
    rw [hout, State.wordsAt_withIbuf]
    cases s.checkOut s.count.toNat with
    | error e => rfl
    | ok _ => cases s.wordsAt s.outIdx.toNat s.count.toNat <;> rfl

end Pseudocode

/-! ### The fault codes (R221) -/

theorem FaultCode.code_ne_zero (code : FaultCode) : code.code ≠ 0 := by cases code <;> decide

theorem FaultCode.code_le_ten (code : FaultCode) : code.code.toNat ≤ 10 := by cases code <;> decide

end Sys2Proof.Machine

/-! The statements on commands: SCAN, BLOCK, SEQ, illegal commands, and commands as wholes. -/

namespace Sys2Proof.Machine

/-! ### Illegal commands and the prologue -/

/-- Settles O45: the fault comes before OBUF is touched. -/
theorem illegalCommandsFault : Obligations.IllegalCommandsFault := by
  intro i s hi
  rw [exec_illegal s hi, State.illegalCmd, s.faultEntry_keeps _ _ _ (.inl rfl), BitVec.ofNat_toNat, BitVec.setWidth_eq]

/-- Settles O46: the prologue is the head of every other command. -/
theorem oversizedInputIsBadParam : Obligations.OversizedInputIsBadParam := by
  intro i s hi hscan hcap
  rw [exec_command s hi]
  exact State.finish_fault_at_cur_keeps rfl (State.pseudocode_oversized hi hscan hcap)

/-! ### Bytes never written -/

/-- Bytes are read in rising order, up to the first that was never written (R62). -/
theorem State.bytesAt_unwritten {s : State} {a n k : Nat} (hk : k < n) (hnone : s.ibuf.read (a + k) = none)
    (hsome : ∀ j, j < k → (s.ibuf.read (a + j)).isSome = true) :
    s.bytesAt a n = .error (.model (.unwrittenByte (a + k))) := by
  induction n generalizing a k with
  | zero => exact absurd hk (Nat.not_lt_zero k)
  | succ n ih =>
    rw [State.bytesAt]
    cases k with
    | zero => rw [(s.byteAt_error a _).2 ⟨hnone, rfl⟩, Res.bind_error, Nat.add_zero]
    | succ k =>
      obtain ⟨x, hx⟩ := Option.isSome_iff_exists.1 (hsome 0 (Nat.succ_pos k))
      have hshift (j : Nat) : a + (j + 1) = a + 1 + j := by omega
      have hrest := ih (a := a + 1) (Nat.lt_of_succ_lt_succ hk) (hshift k ▸ hnone) fun j hj =>
        hshift j ▸ hsome (j + 1) (Nat.succ_lt_succ hj)
      rw [(s.byteAt_ok a x).2 hx, Res.bind_ok, hrest, Res.bind_error, hshift k]

/-- Settles O47: LDLE's load is met by IN_LEN, and stops at the byte. -/
theorem unwrittenReadsStop : Obligations.UnwrittenReadsStop := by
  intro il s hcap hbw hfit k hk hnone hsome
  have hload : s.memRead s.cur.toNat s.bw.toNat = .error (.model (.unwrittenByte (s.cur.toNat + k))) := by
    rw [State.memRead, s.need_bind_of_le _ hfit, State.region, State.bytesAt_unwritten hk hnone hsome, Res.bind_error]
  rw [exec_ldle, s.ldle_of_inLen_le hcap, if_pos hbw, hload]
  rfl

/-! ### SCAN -/

/-- Settles O26: the output range is checked first; then the words decide, the first unwritten one or all of them. -/
theorem scanResult : Obligations.ScanResult := by
  refine ⟨fun il => by cases il <;> rfl, fun il s => ?_⟩
  have hexec : exec (.scan il) s = s.finish s.count.toNat s.scanCmd := rfl
  rw [hexec]
  refine ⟨fun hout => ?outRange, fun hout k hk hnone hsome => ?unwritten, fun g hout hlen hholds => ?scans⟩
  case outRange => exact State.finish_fault_at_cur_keeps rfl (State.scanCmd_outRange hout)
  case unwritten =>
    rw [State.scanCmd_of_fits hout, State.wordsAt_unwritten hk hnone hsome]
    rfl
  case scans =>
    have hwords : s.wordsAt s.outIdx.toNat s.count.toNat = .ok g :=
      (s.wordsAt_ok _ _ _).2 ⟨hlen, fun k hk => hholds k (hlen ▸ hk)⟩
    rw [State.scanCmd_of_fits hout, hwords]
    exact s.finish_completes rfl

/-- The outputs of the scan, each as a number (R170). -/
theorem scan_getElem? {prev : Word} {g : List Word} {i : Nat} (hi : i < g.length) :
    (scan prev g)[i]? =
      some (BitVec.ofNat 32 (prev.toNat + ((g.take (i + 1)).map fun w => w.toNat + 1).sum)) := by
  induction g generalizing prev i with
  | nil => exact absurd hi (Nat.not_lt_zero i)
  | cons x g ih =>
    cases i with
    | zero =>
      simp only [scan_cons, List.getElem?_cons_zero, Option.some.injEq]
      apply BitVec.eq_of_toNat_eq
      simp [BitVec.toNat_add]
      omega
    | succ i =>
      rw [scan_cons, List.getElem?_cons_succ, ih (Nat.lt_of_succ_lt_succ hi)]
      congr 1
      apply BitVec.eq_of_toNat_eq
      simp [BitVec.toNat_add]
      omega

/-- A step of the scan, as a number. -/
theorem toNat_scan_step (prev g : Word) : (prev + g + 1).toNat = (prev.toNat + (g.toNat + 1)) % 2 ^ 32 := by
  simp [BitVec.toNat_add, Nat.add_assoc]

/-- A step of the scan goes up exactly where it does not wrap (R185). -/
theorem lt_scan_step_iff (prev g : Word) :
    prev.toNat < (prev + g + 1).toNat ↔ prev.toNat + (g.toNat + 1) < 2 ^ 32 := by
  have hg := g.isLt
  have hp := prev.isLt
  rw [toNat_scan_step]
  omega

/-- The scan goes up from `prev` on exactly where nothing wraps (R185). -/
theorem pairwise_scan_iff (prev : Word) (g : List Word) :
    List.Pairwise (fun a b : Word => a.toNat < b.toNat) (prev :: scan prev g) ↔
      prev.toNat + (g.map fun w => w.toNat + 1).sum ≤ 2 ^ 32 - 1 := by
  rw [← List.isChain_iff_pairwise]
  induction g generalizing prev with
  | nil =>
    have hp := prev.isLt
    simp
    omega
  | cons x g ih =>
    rw [scan_cons, List.isChain_cons_cons, ih, lt_scan_step_iff, List.map_cons, List.sum_cons]
    have hstep : (prev + x + 1).toNat = (prev.toNat + (x.toNat + 1)) % 2 ^ 32 := toNat_scan_step prev x
    omega

/-- Settles O27. -/
theorem scanIsMonotone : Obligations.ScanIsMonotone := fun prev g => ⟨fun _ => scan_getElem?, pairwise_scan_iff prev g⟩

/-- Moving the seed moves the scan (R186). -/
theorem scan_add (prev d : Word) (g : List Word) : scan (prev + d) g = (scan prev g).map (· + d) := by
  induction g generalizing prev with
  | nil => rfl
  | cons x g ih =>
    have hstep : prev + d + x + 1 = prev + x + 1 + d := by ac_rfl
    rw [scan_cons, scan_cons, List.map_cons, hstep, ih]

/-- Settles O28: a block's gaps do not depend on the seed, and its scan moves with it. -/
theorem seedIndependence : Obligations.SeedIndependence := by
  refine ⟨scan_add, fun s c num il prev d out e h => ?_⟩
  obtain ⟨hc, x, hx, hb, g, hg, rfl⟩ := (s.decodeBlock_ok _ _ _ _ _ _).1 h
  exact (s.decodeBlock_ok _ _ _ _ _ _).2 ⟨hc, x, hx, hb, g, hg, (scan_add prev d g).symm⟩

/-! ### Exceptions -/

/-- A shift to the left is a product, cut to the word. -/
theorem shiftLeft_eq_ofNat (v : Word) (b : Nat) : v <<< b = BitVec.ofNat 32 (v.toNat * 2 ^ b) := by
  apply BitVec.eq_of_toNat_eq
  rw [BitVec.toNat_shiftLeft, BitVec.toNat_ofNat, Nat.shiftLeft_eq]

/-- Settles O37: one exception after the other, each at its own position. -/
theorem exceptionsOrTogether : Obligations.ExceptionsOrTogether := by
  intro b g es i
  induction es generalizing g with
  | nil => simp [orAll]
  | cons e es ih =>
    obtain ⟨k, h⟩ := e
    rw [orAll, ih, orAt_getElem?, List.filter_cons, shiftLeft_eq_ofNat]
    by_cases hk : k = i
    · subst hk
      simp [Function.comp_def]
    · simp [hk, Ne.symm hk]

/-! ### BLOCK -/

/-- The block decoder on a CONSTANT or FOR block at hand. -/
theorem State.blockGaps_of_body {s : State} {h : Byte} {c num b : Nat} {il : Bool} {xs : List Byte} {g : List Word}
    (hbody : s.holds (c + 1) xs)
    (hty : (decodeType h = .constant ∧ xs.length = ceilDiv b 8 ∧
        g = List.replicate num (BitVec.ofNat 32 (leNat xs % 2 ^ b))) ∨
      (decodeType h = .for_ ∧ xs.length = packedSize s.params.bs num b il ∧
        g = unpackFields s.params (leNat xs) num b il)) :
    s.blockGaps (decodeType h) c num b (il && decide (decodeType h ≠ .constant)) = .ok (g, c + 1 + xs.length) := by
  obtain ⟨hty, hlen, rfl⟩ | ⟨hty, hlen, rfl⟩ := hty
  · rw [hty]
    exact State.constantGaps_of_regionHolds hlen (.inr hbody)
  · rw [hty, show (il && decide (BlockType.for_ ≠ .constant)) = il from Bool.and_true il]
    exact State.forGaps_of_regionHolds hlen (.inr hbody)

/-- Settles O30: BLOCK's checks are met, and the header and the body at hand make the block decoder answer. -/
theorem blockCompletesOnConstantAndFor : Obligations.BlockCompletesOnConstantAndFor := by
  intro i il s h b xs g hi hcap hpos hle hout hholds hb hb32 hbody
  obtain ⟨hc, hh, hxs⟩ := State.holds_cons hholds
  have hdecode := State.decodeBlock_of_header (num := s.count.toNat) (il := il) (prev := s.prev) hc hh
  rw [← hb, if_neg (Nat.not_lt.2 hb32), State.blockGaps_of_body hxs hbody, Res.bind_ok] at hdecode
  obtain ⟨-, -, hblock⟩ := blockResult
  obtain ⟨-, -, hends⟩ := hblock i il s hi hcap
  obtain ⟨-, hrun⟩ := hends hpos hle hout
  rw [hrun _ _ hdecode, show s.cur.toNat + 1 + xs.length - s.cur.toNat = 1 + xs.length by omega]

/-! ### SEQ -/

theorem exec_seq_of_il {i : Instr} {il : Bool} (s : State) (hi : (i = .seq ∧ il = false) ∨ (i = .seqIl ∧ il = true)) :
    exec i s = s.finish s.count.toNat (s.seqCmd il) := by
  obtain ⟨rfl, rfl⟩ | ⟨rfl, rfl⟩ := hi
  · rfl
  · rfl

theorem exists_il_of_seq {i : Instr} (hi : i = .seq ∨ i = .seqIl) :
    ∃ il, (i = .seq ∧ il = false) ∨ (i = .seqIl ∧ il = true) := by
  obtain rfl | rfl := hi
  · exact ⟨false, .inl ⟨rfl, rfl⟩⟩
  · exact ⟨true, .inr ⟨rfl, rfl⟩⟩

/-- Settles O42: SEQ's checks, then COUNT, then the sequence decoder, decide how the command ends. -/
theorem seqResult : Obligations.SeqResult := by
  refine ⟨rfl, rfl, fun i il s hi hcap => ?_⟩
  rw [exec_seq_of_il s hi]
  refine ⟨fun hout => State.finish_fault_at_cur_keeps rfl (State.seqCmd_outRange hcap hout), fun hout => ?_⟩
  rw [State.seqCmd_of_seqChecks_ok (State.seqChecks_ok_iff.2 ⟨hcap, hout⟩)]
  refine ⟨fun hzero => ?nothing, fun hpos => ?decodes⟩
  case nothing =>
    rw [if_pos hzero]
    exact s.finish_completes rfl
  case decodes =>
    rw [if_neg (Nat.one_le_iff_ne_zero.1 hpos)]
    refine ⟨fun code off hfault => ?_, fun out e hseq => ?_⟩
    · rw [hfault]
      exact State.finish_faults rfl
    · rw [hseq]
      exact s.finish_completes rfl

/-- SEQ with its checks met and its sequence decoded (R210). -/
theorem State.exec_seq_decodes {s : State} {i : Instr} {il : Bool} {out : List Word} {e : Nat}
    (hi : (i = .seq ∧ il = false) ∨ (i = .seqIl ∧ il = true)) (hcap : s.inLen.toNat ≤ s.params.inCap)
    (hout : s.outIdx.toNat + s.count.toNat ≤ s.params.outCap) (hpos : 1 ≤ s.count.toNat)
    (hseq : s.decodeSeq s.cur.toNat s.count.toNat il = .ok (out, e)) :
    exec i s = .next { s with
      obuf := s.obuf.writeAll s.outIdx.toNat out
      prev := out.getLastD s.prev
      cur := BitVec.ofNat 32 e
      outIdx := BitVec.ofNat 32 (s.outIdx.toNat + s.count.toNat)
      consumed := BitVec.ofNat 32 (e - s.cur.toNat)
      done := true
      engine := .idle } := by
  obtain ⟨-, -, hseqs⟩ := seqResult
  obtain ⟨-, hends⟩ := hseqs i il s hi hcap
  obtain ⟨-, hdecodes⟩ := hends hout
  obtain ⟨-, hrun⟩ := hdecodes hpos
  exact hrun out e hseq

/-- A sequence of one identifier is its seed (R210). -/
theorem State.decodeSeq_one {s : State} {c len : Nat} {il : Bool} {v : Word} (h : s.decodeBaseval c = .ok (v, len)) :
    s.decodeSeq c 1 il = .ok ([v], c + len) := by
  have hblocks (k cur : Nat) (prev : Word) : s.seqBlocks il k 0 cur prev = .ok ([], cur) := by cases k <;> rfl
  rw [State.decodeSeq, h, Res.bind_ok]
  simp only [Nat.sub_self, hblocks, Res.bind_ok]

/-- Settles O43: the seed's form is at hand, and no block follows it. -/
theorem seqOfOneIsItsSeed : Obligations.SeqOfOneIsItsSeed := by
  intro i s x xs v hi hcap hcount hout hholds hform
  obtain ⟨hc, hx, hxs⟩ := State.holds_cons hholds
  rw [decode_basevalByte] at hform
  have hone : s.count.toNat = 1 := by rw [hcount]; rfl
  have hseq (il : Bool) := State.decodeSeq_one (il := il) (s.decodeBaseval_of_form hc hx hform (.inr hxs))
  obtain ⟨il, hil⟩ := exists_il_of_seq hi
  have hrun := State.exec_seq_decodes hil hcap (hone ▸ hout) hone.ge (hone ▸ hseq il)
  rw [hone] at hrun
  rw [hrun, Nat.add_comm xs.length 1, Nat.add_sub_cancel_left]
  rfl

/-- Settles O44: the seed comes from the stream, and PREV is the last identifier decoded. -/
theorem seqIgnoresPrev : Obligations.SeqIgnoresPrev := by
  intro i s t p hi hcount _ h hok
  have hpos : s.count.toNat ≠ 0 := fun h0 => hcount (BitVec.eq_of_toNat_eq h0)
  obtain ⟨il, hil⟩ := exists_il_of_seq hi
  rw [exec_seq_of_il s hil] at h
  obtain ⟨u, hu, rfl⟩ | ⟨code, off, -, rfl⟩ := (s.finish_next _ _ _).1 h
  · obtain ⟨_, hchecks, hu⟩ := (Res.bind_eq_ok _ _ _).1 hu
    rw [if_neg hpos] at hu
    obtain ⟨⟨out, e⟩, hseq, hu⟩ := (Res.bind_eq_ok _ _ _).1 hu
    cases hu
    obtain ⟨hcap, hout⟩ := State.seqChecks_ok_iff.1 hchecks
    have hstream : s.sameStream { s with prev := p } := ⟨rfl, rfl, fun _ _ => rfl⟩
    have hseq' := (hstream.decodeSeq s.cur.toNat s.count.toNat il).eq.trans hseq
    have hlast : out.getLastD p = out.getLastD s.prev := by
      have hlen := State.decodeSeq_length hseq (Nat.one_le_iff_ne_zero.2 hpos)
      cases out with
      | nil => exact absurd hlen.symm hpos
      | cons x out => rfl
    have hrun := State.exec_seq_decodes (s := { s with prev := p }) hil hcap hout (Nat.one_le_iff_ne_zero.2 hpos) hseq'
    rw [hrun, hlast]
    rfl
  · cases hok

/-! ### Commands as wholes -/

/-- Settles O56: what a command stages and what a fault leaves open both stay inside the write set. -/
theorem commandsWriteOnlyTheirWriteSet : Obligations.CommandsWriteOnlyTheirWriteSet := by
  intro i s t hi h k hk
  obtain ⟨u, out, rfl, hstaged, hlen, -⟩ | ⟨code, off, rfl⟩ := exec_command_next hi h
  · rw [State.complete_obuf, hstaged.obuf, Memory.read_writeAll, if_neg (hlen ▸ hk)]
  · rw [State.faultEntry_obuf]
    refine Memory.read_scramble_other _ _ _ _ _ _ fun hin => hk ?_
    split_ifs at hin <;> omega

/-- Settles O57: a success is a staged state completed, a fault a fault entry. -/
theorem commandsAreAllOrNothing : Obligations.CommandsAreAllOrNothing := by
  intro i s t hi h
  obtain ⟨u, out, rfl, hstaged, -, -⟩ | ⟨code, off, rfl⟩ := exec_command_next hi h
  · refine ⟨rfl, rfl, .inl ?_⟩
    rw [hstaged.frame]
    exact ⟨rfl, rfl, rfl⟩
  · exact ⟨rfl, rfl, .inr ⟨s.faultEntry_sameRegisters code off _, rfl, code.code_ne_zero⟩⟩

/-- A command without a stop of the model ends IDLE and DONE (R242, R227). -/
theorem State.finish_ends {s : State} {n : Nat} {r : Res State} (h : ∀ f, r ≠ .error (.model f)) :
    ∃ t, s.finish n r = .next t ∧ t.engine = .idle ∧ t.done = true := by
  cases r with
  | ok u => exact ⟨_, rfl, rfl, rfl⟩
  | error e =>
    cases e with
    | engine code off => exact ⟨_, rfl, rfl, rfl⟩
    | model f => exact absurd rfl (h f)

/-- Settles O58: a command stops the model only where a byte below IN_LEN, or for SCAN a word, was never written. -/
theorem everyCommandCompletes : Obligations.EveryCommandCompletes := by
  intro i s hi hbytes hwords
  rw [exec_command s hi]
  refine State.finish_ends fun f hstop => ?_
  by_cases hscan : ∀ il, i ≠ .scan il
  · obtain ⟨a, ha, hnone⟩ := (State.pseudocode_readsStream (fun _ _ => rfl) hscan hi).stops f hstop
    simpa [hnone] using hbytes hscan a ha
  · push Not at hscan
    obtain ⟨il, rfl⟩ := hscan
    obtain ⟨g, hg⟩ := State.wordsAt_of_written (hwords il rfl)
    change s.scanCmd = _ at hstop
    by_cases hout : s.outIdx.toNat + s.count.toNat ≤ s.params.outCap
    · rw [State.scanCmd_of_fits hout, hg] at hstop
      cases hstop
    · rw [State.scanCmd_outRange (Nat.not_le.1 hout)] at hstop
      cases hstop

end Sys2Proof.Machine

/-! Stream items of a command in flight: what each does once its bytes are at hand (spec/40_scalar.md, spec/42_blocks.md,
spec/43_sequence.md). -/

namespace Sys2Proof.Machine

section Items

variable {s : State} {w : Word} {left : Nat} {r : Run}

/-! ### An item of the command in flight -/

/-- An item that answers moves the command in flight on. -/
theorem State.runItem_ok {item : Run → Res Progress} {p : Progress} (hw : s.engine = .busy w left (some r))
    (h : item r = .ok p) : s.runItem item = .next (s.advance w left p) := by
  rw [s.runItem_busy item w left r hw, h]

/-- An item that raises a fault ends the command in flight with it. -/
theorem State.runItem_fault {item : Run → Res Progress} {code : FaultCode} {off : Nat}
    (hw : s.engine = .busy w left (some r)) (h : item r = .error (.engine code off)) :
    s.runItem item = .next (s.faultEntry code off s.runningWriteSet) := by
  rw [s.runItem_busy item w left r hw, h]

/-- A header in the awaited flavour is the block's. -/
theorem State.headerItem_eq {il : Option Bool} {block : Run → Res Progress} (hw : s.engine = .busy w left (some r))
    (hexp : r.expect = .header) (hil : il = none ∨ il = some (r.useIL s.params.bs)) :
    s.headerItem il block = s.runItem fun _ => block r := by
  rw [State.headerItem, s.runItem_busy _ w left r hw, s.runItem_busy _ w left r hw]
  simp only [hexp, hil, and_self, if_true]

/-! ### The items of one type -/

theorem exec_forItem {i : Instr} {b : Nat} {il : Bool} (s : State) (h : i.headerOf = some (.for_, b, some il)) :
    exec i s = s.forItem il b := by
  cases i with
  | for_ | for32 | forIl | forIl32 => cases h; rfl
  | _ => cases h

theorem exec_constantItem {i : Instr} {b : Nat} (s : State) (h : i.headerOf = some (.constant, b, none)) :
    exec i s = s.constantItem b := by
  cases i with
  | constant | constant32 => cases h; rfl
  | _ => cases h

theorem exec_pforBitmapItem {i : Instr} {b : Nat} {il : Bool} (s : State)
    (h : i.headerOf = some (.pforBitmap, b, some il)) : exec i s = s.pforBitmapItem il b := by
  cases i with
  | pforBitmap | pforBitmap32 | pforBitmapIl | pforBitmapIl32 => cases h; rfl
  | _ => cases h

theorem exec_pforVbItem {i : Instr} {b : Nat} {il : Bool} (s : State)
    (h : i.headerOf = some (.pforVb, b, some il)) : exec i s = s.pforVbItem il b := by
  cases i with
  | pforVb | pforVb32 | pforVbIl | pforVbIl32 => cases h; rfl
  | _ => cases h

theorem exec_bexcItem {i : Instr} {E : Nat} (s : State)
    (h : (∃ e : BitVec 5, i = .bexc e ∧ E = e.toNat) ∨ (i = .bexc32 ∧ E = 32)) : exec i s = s.bexcItem E := by
  obtain ⟨e, rfl, rfl⟩ | ⟨rfl, rfl⟩ := h
  · rfl
  · rfl

/-! ### Baseval scalars -/

/-- The form a baseval item runs, on its bytes (R132). -/
theorem exec_basevalItem {i : Instr} {xs : List Byte} {v : Word} (h : basevalForm i xs v)
    (hxs : s.regionHolds (r.cur + 1) xs) :
    ∃ form, exec i s = s.basevalItem form ∧ form r.cur = .ok (v, xs.length + 1) := by
  obtain ⟨h, rfl, rfl, rfl⟩ | ⟨h, b1, rfl, rfl, rfl⟩ | ⟨h, b1, b2, rfl, rfl, rfl⟩ := h
  · refine ⟨fun _ => .ok (basevalForm1 (Instr.baseval1 h).firstByte), rfl, ?_⟩
    have hpay : (h.setWidth 8).setWidth 32 = h.setWidth 32 := by
      apply BitVec.eq_of_toNat_eq
      rw [toNat_setWidth_byte, BitVec.toNat_setWidth_of_le (by decide), BitVec.toNat_setWidth_of_le (by decide)]
    simp only [Instr.firstByte, encode, setWidth_byteWord, basevalForm1, hpay]
    rfl
  · refine ⟨fun c => s.basevalForm2 c (Instr.baseval2 h).firstByte, rfl, ?_⟩
    have hpay : (2#2 ++ h).extractLsb' 0 6 = h := BitVec.extractLsb'_append_eq_right
    simp only [Instr.firstByte, encode, setWidth_byteWord]
    rw [s.basevalForm2_of_holds (hxs.resolve_left (List.cons_ne_nil _ _)), hpay]
    rfl
  · refine ⟨fun c => s.basevalForm3 c (Instr.baseval3 h).firstByte, rfl, ?_⟩
    have hpay : (6#3 ++ h).extractLsb' 0 5 = h := BitVec.extractLsb'_append_eq_right
    simp only [Instr.firstByte, encode, setWidth_byteWord]
    rw [s.basevalForm3_of_holds (hxs.resolve_left (List.cons_ne_nil _ _)), hpay]
    rfl

/-- The form a vb item runs, on its bytes (R134). -/
theorem exec_vbItem {i : Instr} {xs : List Byte} {v : Nat} (h : vbForm i xs v)
    (hxs : s.regionHolds (r.cur + 1) xs) :
    ∃ form, exec i s = s.vbItem form ∧ form r.cur = .ok (BitVec.ofNat 32 v, xs.length + 1) := by
  obtain ⟨x, rfl, -, rfl, rfl⟩ | ⟨x, b1, rfl, hlo, -, rfl, rfl⟩ | ⟨x, b1, b2, rfl, hlo, -, rfl, rfl⟩ |
    ⟨b1, b2, b3, rfl, rfl, rfl⟩ | ⟨b1, b2, b3, b4, rfl, rfl, rfl⟩ := h
  · refine ⟨fun _ => .ok (vbForm1 x), rfl, ?_⟩
    rw [BitVec.ofNat_toNat]
    rfl
  · exact ⟨fun c => s.vbForm2 c x, rfl, s.vbForm2_of_holds hlo (hxs.resolve_left (List.cons_ne_nil _ _))⟩
  · exact ⟨fun c => s.vbForm3 c x, rfl, s.vbForm3_of_holds hlo (hxs.resolve_left (List.cons_ne_nil _ _))⟩
  · refine ⟨fun c => s.vbForm4 c, rfl, ?_⟩
    have hnum : leNat [b1, b2, b3] = b1.toNat + 2 ^ 8 * b2.toNat + 2 ^ 16 * b3.toNat := by simp only [leNat]; omega
    rw [← hnum]
    exact s.vbForm4_of_holds rfl (hxs.resolve_left (List.cons_ne_nil _ _))
  · refine ⟨fun c => s.vbForm5 c, rfl, ?_⟩
    have hnum : leNat [b1, b2, b3, b4] =
        b1.toNat + 2 ^ 8 * b2.toNat + 2 ^ 16 * b3.toNat + 2 ^ 24 * b4.toNat := by simp only [leNat]; omega
    rw [← hnum]
    exact s.vbForm5_of_holds rfl (hxs.resolve_left (List.cons_ne_nil _ _))

/-- Escape values are 4 bytes each (R180). -/
theorem escBytes_length (vs : List Word) : (vs.flatMap fun v => leBytes 4 v.toNat).length = 4 * vs.length := by
  simp [List.length_flatMap, leBytes_length, Nat.mul_comm]

/-- The index bytes at hand, the exceptions are ORed in (R178, R181). -/
theorem State.pforVbPatch_of_lt {num b e : Nat} {g xs : List Word} {ix : List Byte} (hlen : ix.length = xs.length)
    (h : s.regionHolds e ix) (hlt : ∀ i ∈ ix, i.toNat < num) :
    s.pforVbPatch num b g xs e = .ok (orAll b g ((ix.map BitVec.toNat).zip xs), e + xs.length) := by
  rw [State.pforVbPatch_of_regionHolds hlen h, State.patchFrom_of_lt hlen h hlt]

end Items

/-! ### The obligations -/

/-- Settles O48: the body at hand, the block's decoder answers its gaps. -/
theorem forAndConstantItems : Obligations.ForAndConstantItems := by
  intro i s w left r b xs hw hexp hxs
  refine ⟨fun il hi hil hlen => ?for_, fun hi hlen => ?constant⟩
  case for_ =>
    rw [exec_forItem s hi, State.forItem, State.headerItem_eq hw hexp (.inr (congrArg some hil.symm))]
    refine State.runItem_ok hw ?_
    rw [State.forGaps_of_regionHolds hlen hxs, Res.bind_ok]
  case constant =>
    rw [exec_constantItem s hi, State.constantItem, State.headerItem_eq hw hexp (.inl rfl)]
    refine State.runItem_ok hw ?_
    rw [State.constantGaps_of_regionHolds hlen hxs, Res.bind_ok]

/-- Settles O49: the header leaves the block to its BEXC byte, which runs the body PFOR_BITMAP blocks share. -/
theorem pforBitmapItems : Obligations.PforBitmapItems := by
  intro i s w left r b hw
  refine ⟨fun il hexp hi hil => ?header, fun hdr num E il bm eb bv pos hexp hi hbm hbitmap hpos => ?bexc⟩
  case header =>
    rw [exec_pforBitmapItem s hi, State.pforBitmapItem, State.headerItem_eq hw hexp (.inr (congrArg some hil.symm))]
    exact State.runItem_ok (p := .more _) hw rfl
  case bexc =>
    have hpositions : bitmapPositions (leNat bm) num = pos := hpos.symm
    have hbody := State.pforBitmapBody_of_bitmap (b := b) (E := E) hbm hbitmap
    rw [hpositions] at hbody
    rw [exec_bexcItem s hi, State.bexcItem]
    refine ⟨fun hne hb => ?excShift, fun hlegal heb hbv hexc hbase => ?ends⟩
    case excShift =>
      refine State.runItem_fault hw ?_
      rw [if_pos ⟨mt List.length_eq_zero_iff.1 hne, hb⟩] at hbody
      simp only [hexp, hbody]
      rfl
    case ends =>
      refine State.runItem_ok hw ?_
      have hshift : ¬ (pos.length ≠ 0 ∧ b = 32) := fun ⟨hne, hb⟩ =>
        hlegal.elim (fun hnil => hne (List.length_eq_zero_iff.2 hnil)) fun hb' => hb' hb
      rw [if_neg hshift, State.bitmapPatch_of_regionHolds heb hbv hexc hbase] at hbody
      simp only [hexp, hbody]
      rfl

/-- Settles O50: NEXC decides whether the block ends after its base values. -/
theorem pforVbHeaderItems : Obligations.PforVbHeaderItems := by
  intro i s w left r b il n xs hw hexp hi hil hc hn
  have hzero : n = 0 ↔ n.toNat = 0 := BitVec.toNat_inj.symm
  rw [exec_pforVbItem s hi, State.pforVbItem, State.headerItem_eq hw hexp (.inr (congrArg some hil.symm)),
    State.need_byte_bind _ hc hn]
  refine ⟨fun hne hb => ?excShift, fun hxs hlen => ⟨fun hnone hend => ?ends, fun hne hb => ?area⟩⟩
  case excShift =>
    refine State.runItem_fault hw ?_
    subst hb
    rw [State.pforVbBase_excShift (mt hzero.2 hne), Res.bind_error]
  case ends =>
    refine State.runItem_ok hw ?_
    have hempty : s.excEmpty (r.cur + 2 + xs.length) = .ok (r.cur + 2 + xs.length) := by
      by_cases hlt : r.cur + 2 + xs.length < s.inLen.toNat
      · obtain hle | hsel | ⟨y, hy, hff⟩ := hend
        · exact absurd hlt (Nat.not_lt.2 hle)
        · exact State.excEmpty_of_noRead_or_end (.inl hsel)
        · exact State.excEmpty_of_byte_ne hlt hy hff
      · exact State.excEmpty_of_noRead_or_end (.inr (Nat.not_lt.1 hlt))
    have hshift : ¬ (n.toNat ≠ 0 ∧ b = 32) := fun ⟨hne, _⟩ => hne (hzero.1 hnone)
    rw [State.pforVbBase_of_regionHolds hshift hlen hxs, Res.bind_ok]
    simp only [hzero.1 hnone, if_true, hempty, Res.bind_ok]
    rw [State.pforVbPatch_of_lt (ix := []) rfl (.inl rfl) nofun, Res.bind_ok]
    rfl
  case area =>
    refine (State.runItem_ok hw ?_).trans (congrArg _ (s.advance_more w left _))
    rw [State.pforVbBase_of_regionHolds (fun h => hb h.2) hlen hxs, Res.bind_ok]
    exact if_neg (mt hzero.2 hne)

/-- Settles O51: the escape values and the index bytes are at hand, or the vb scalars are left to come. -/
theorem exceptionAreaItems : Obligations.ExceptionAreaItems := by
  intro s w left r num b n g hw hexp
  refine ⟨fun x => ?vb, fun vs ix hvs hix hlt hholds => ?escape⟩
  case vb =>
    refine (State.runItem_ok (p := .more { r with expect := .excVb num b n g [] }) hw ?_).trans rfl
    simp only [hexp]
  case escape =>
    obtain ⟨hvals, hindex⟩ := State.holds_append hholds
    subst hvs
    rw [escBytes_length] at hindex
    refine State.runItem_ok hw ?_
    simp only [hexp, State.escValues_of_holds hvals, Res.bind_ok, State.pforVbPatch_of_lt hix (.inr hindex) hlt]

/-- Settles O52: the form's bytes at hand, the scalar is decoded, and what awaits it says where it goes. -/
theorem scalarItems : Obligations.ScalarItems := by
  intro i s w left r xs hw hxs
  refine ⟨fun v hform => ?baseval, fun v hform => ?vb⟩
  case baseval =>
    obtain ⟨form, hi, hv⟩ := exec_basevalItem hform hxs
    rw [hi, State.basevalItem]
    refine ⟨fun hexp => ?_, fun hexp => ?_⟩
    · refine (State.runItem_ok (p := .finished (s.commitScalar v (xs.length + 1))) hw ?_).trans rfl
      simp only [hexp, hv, Res.bind_ok]
    · refine State.runItem_ok hw ?_
      simp only [hexp, hv, Res.bind_ok]
  case vb =>
    obtain ⟨form, hi, hv⟩ := exec_vbItem hform hxs
    rw [hi, State.vbItem]
    refine ⟨fun hexp => ?_, fun num b n g vs hexp => ⟨fun hmore => ?_, fun ix hlast hix hlt hindex => ?_⟩⟩
    · refine (State.runItem_ok (p := .finished (s.commitScalar _ (xs.length + 1))) hw ?_).trans rfl
      simp only [hexp, hv, Res.bind_ok]
    · refine (State.runItem_ok (p := .more _) hw ?_).trans rfl
      simp only [hexp, hv, Res.bind_ok, if_neg (Nat.ne_of_lt hmore)]
    · refine State.runItem_ok hw ?_
      have hlen : ix.length = (vs ++ [BitVec.ofNat 32 v]).length := by simp [hix, hlast]
      simp only [hexp, hv, Res.bind_ok, if_pos hlast, State.pforVbPatch_of_lt hlen (.inr hindex) hlt]
      rw [← hlen, hix]

/-- Settles O53: a reserved item raises its fault whatever follows it. -/
theorem reservedItemsFault : Obligations.ReservedItemsFault := by
  intro s w left r hw
  refine ⟨fun ty b hexp => ?header, fun e hdr num b il hexp => ?bexc, fun low hexp => ?baseval, fun x hexp => ?vb⟩
  case header =>
    change s.headerItem none _ = _
    rw [State.headerItem_eq hw hexp (.inl rfl)]
    exact State.runItem_fault hw rfl
  case bexc =>
    refine State.runItem_fault hw ?_
    simp only [hexp]
    rfl
  case baseval =>
    refine State.runItem_fault hw ?_
    obtain hexp | hexp := hexp
    all_goals
      simp only [hexp]
      rfl
  case vb =>
    refine State.runItem_fault hw ?_
    obtain hexp | ⟨num, b, n, g, vs, hexp⟩ := hexp
    all_goals
      simp only [hexp]
      rfl

end Sys2Proof.Machine

/-! A command in flight: its next stream item, whatever byte it begins with (R52, R216). -/

namespace Sys2Proof.Machine

section NextItem

variable (s : State)

/-! ### The next item, in the order of the pseudocode -/

/-- `DecodeBaseval` after its first byte `x` (R132). -/
def State.basevalAt (x : Byte) (c : Nat) : Res (Word × Nat) :=
  if x.toNat < 128 then .ok (basevalForm1 x)
  else if x.toNat < 192 then s.basevalForm2 c x
  else if x.toNat < 224 then s.basevalForm3 c x
  else raise .basevalRsv c

/-- `DecodeVb` after its first byte `x` (R134). -/
def State.vbAt (x : Byte) (c : Nat) : Res (Word × Nat) :=
  if x.toNat ≤ 176 then .ok (vbForm1 x)
  else if x.toNat ≤ 240 then s.vbForm2 c x
  else if x.toNat ≤ 248 then s.vbForm3 c x
  else if x.toNat = 249 then s.vbForm4 c
  else if x.toNat = 250 then s.vbForm5 c
  else raise .vbRsv c

/-- A block header of type `ty` and width `b` ≤ 32, in the flavour the command in flight awaits (R171). -/
def State.nextHeader (r : Run) (ty : BlockType) (b : Nat) : Res Progress :=
  match ty with
  | .constant => do
    let ge ← s.constantGaps r.cur (r.num s.params.bs) b
    .ok (s.endBlock r ge)
  | .for_ => do
    let ge ← s.forGaps r.cur (r.num s.params.bs) b (r.useIL s.params.bs)
    .ok (s.endBlock r ge)
  | .pforBitmap =>
    .ok (.more { r with cur := r.cur + 1, expect := .bexc r.cur (r.num s.params.bs) b (r.useIL s.params.bs) })
  | .pforVb => do
    s.need (r.cur + 1) 1
    let n ← s.byteAt (r.cur + 1)
    let (g, e0) ← s.pforVbBase r.cur (r.num s.params.bs) b n.toNat (r.useIL s.params.bs)
    if n.toNat = 0 then
      let e ← s.excEmpty e0
      let ge ← s.pforVbPatch (r.num s.params.bs) b g [] e
      .ok (s.endBlock r ge)
    else .ok (.more { r with cur := e0, expect := .excArea (r.num s.params.bs) b n.toNat g })

/-- The next item of a command in flight, after its first byte `x`. -/
def State.itemAt (r : Run) (x : Byte) : Res Progress :=
  match r.expect with
  | .scalarBaseval => do
    let (v, len) ← s.basevalAt x r.cur
    .ok (.finished (s.commitScalar v len))
  | .scalarVb => do
    let (v, len) ← s.vbAt x r.cur
    .ok (.finished (s.commitScalar v len))
  | .seed => do
    let (v, len) ← s.basevalAt x r.cur
    .ok (s.nextBlock { r with cur := r.cur + len, prev := v, out := [v], todo := r.todo - 1 })
  | .header =>
    if 32 < (x.extractLsb' 0 6).toNat then raise .badWidth r.cur
    else s.nextHeader r (decodeType x) (x.extractLsb' 0 6).toNat
  | .bexc hdr num b il =>
    if 32 < x.toNat then raise .badWidth r.cur
    else do
      let ge ← s.pforBitmapBody hdr num b x.toNat il
      .ok (s.endBlock r ge)
  | .excArea num b n g =>
    if x = 0xFF#8 then do
      let (xs, e) ← s.escValues (r.cur + 1) n
      let ge ← s.pforVbPatch num b g xs e
      .ok (s.endBlock r ge)
    else .ok (.more { r with expect := .excVb num b n g [] })
  | .excVb num b n g xs => do
    let (v, len) ← s.vbAt x r.cur
    if xs.length + 1 = n then
      let ge ← s.pforVbPatch num b g (xs ++ [v]) (r.cur + len)
      .ok (s.endBlock r ge)
    else .ok (.more { r with cur := r.cur + len, expect := .excVb num b n g (xs ++ [v]) })

/-- The next item of a command in flight, with the fetch of its first byte (R88). -/
def State.nextItem (r : Run) : Res Progress := s.streamByte r >>= s.itemAt r

/-! ### The decoded byte's instruction is that item -/

theorem exec_decodeBasevalByte (x : Byte) : exec (decodeBasevalByte x) s = s.basevalItem (s.basevalAt x) := by
  have hbyte : (decodeBasevalByte x).firstByte = x := by
    rw [Instr.firstByte, (encode_decodeBasevalByte x).1, setWidth_byteWord]
  unfold State.basevalAt
  unfold decodeBasevalByte at *
  split_ifs at hbyte ⊢
  · change s.basevalItem (fun _ => .ok (basevalForm1 _)) = _
    rw [hbyte]
  · change s.basevalItem (fun c => s.basevalForm2 c _) = _
    rw [hbyte]
  · change s.basevalItem (fun c => s.basevalForm3 c _) = _
    rw [hbyte]
  · rfl

theorem exec_decodeVbByte (x : Byte) : exec (decodeVbByte x) s = s.vbItem (s.vbAt x) := by
  unfold State.vbAt decodeVbByte
  split_ifs <;> rfl

variable {s} {w : Word} {left : Nat} {r : Run}

/-- Only what an item does to the run in flight matters. -/
theorem State.runItem_congr {item item' : Run → Res Progress} (hw : s.engine = .busy w left (some r))
    (h : item r = item' r) : s.runItem item = s.runItem item' := by
  rw [s.runItem_busy _ w left r hw, s.runItem_busy _ w left r hw, h]

/-- The type, width and flavour of a decoded header of a legal width (R104, R171). -/
theorem headerOf_decodeHdr (il : Bool) (x : Byte) (hb : (x.extractLsb' 0 6).toNat ≤ 32) :
    (decodeHdr il x).headerOf = some (decodeType x, (x.extractLsb' 0 6).toNat,
      if decodeType x = .constant then none else some il) := by
  unfold decodeHdr
  rw [if_neg (Nat.not_lt.2 hb)]
  by_cases h32 : x.extractLsb' 0 6 = 32
  · rw [if_pos h32, h32]
    cases decodeType x <;> cases il <;> rfl
  · have hlt : (x.extractLsb' 0 6).toNat < 32 := Nat.lt_of_le_of_ne hb fun h => h32 (BitVec.eq_of_toNat_eq h)
    have hlow : (x.extractLsb' 0 5).toNat = (x.extractLsb' 0 6).toNat := by
      rw [← setWidth_extractLsb'_width x hlt, toNat_setWidth_width]
    rw [if_neg h32, ← hlow]
    cases decodeType x <;> cases il <;> rfl

/-- With a header awaited, the decoded header is the item. -/
theorem exec_decodeHdr (x : Byte) (hw : s.engine = .busy w left (some r)) (hexp : r.expect = .header) :
    exec (decodeHdr (r.useIL s.params.bs) x) s = s.runItem fun r => s.itemAt r x := by
  have hitem : s.itemAt r x = if 32 < (x.extractLsb' 0 6).toNat then raise .badWidth r.cur
      else s.nextHeader r (decodeType x) (x.extractLsb' 0 6).toNat := by
    simp only [State.itemAt, hexp]
  by_cases hwide : 32 < (x.extractLsb' 0 6).toNat
  · have hdec : decodeHdr (r.useIL s.params.bs) x = .badWidth (decodeType x) (x.extractLsb' 0 6) := by
      unfold decodeHdr
      rw [if_pos hwide]
    rw [hdec]
    change s.headerItem none _ = _
    rw [State.headerItem_eq hw hexp (.inl rfl)]
    exact State.runItem_congr hw (hitem.trans (if_pos hwide)).symm
  · have hhdr := headerOf_decodeHdr (r.useIL s.params.bs) x (Nat.not_lt.1 hwide)
    rw [if_neg hwide] at hitem
    cases hty : decodeType x with
    | constant =>
      rw [hty] at hhdr hitem
      rw [exec_constantItem s hhdr, State.constantItem, State.headerItem_eq hw hexp (.inl rfl)]
      exact State.runItem_congr hw hitem.symm
    | for_ =>
      rw [hty] at hhdr hitem
      rw [exec_forItem s hhdr, State.forItem, State.headerItem_eq hw hexp (.inr rfl)]
      exact State.runItem_congr hw hitem.symm
    | pforBitmap =>
      rw [hty] at hhdr hitem
      rw [exec_pforBitmapItem s hhdr, State.pforBitmapItem, State.headerItem_eq hw hexp (.inr rfl)]
      exact State.runItem_congr hw hitem.symm
    | pforVb =>
      rw [hty] at hhdr hitem
      rw [exec_pforVbItem s hhdr, State.pforVbItem, State.headerItem_eq hw hexp (.inr rfl)]
      exact State.runItem_congr hw hitem.symm

theorem exec_decodeBexc (x : Byte) {hdr num b : Nat} {il : Bool} (hw : s.engine = .busy w left (some r))
    (hexp : r.expect = .bexc hdr num b il) : exec (decodeBexc x) s = s.runItem fun r => s.itemAt r x := by
  have hitem : s.itemAt r x = if 32 < x.toNat then raise .badWidth r.cur
      else s.pforBitmapBody hdr num b x.toNat il >>= fun ge => .ok (s.endBlock r ge) := by
    simp only [State.itemAt, hexp]
  unfold decodeBexc
  split_ifs with hlt h32
  · have hnum : (x.extractLsb' 0 5).toNat = x.toNat := by
      rw [BitVec.extractLsb'_toNat, Nat.shiftRight_zero, Nat.mod_eq_of_lt hlt]
    rw [exec_bexcItem s (.inl ⟨_, rfl, rfl⟩), State.bexcItem, hnum]
    refine State.runItem_congr hw ?_
    rw [hitem, if_neg (by omega)]
    simp only [hexp]
  · rw [exec_bexcItem s (.inr ⟨rfl, rfl⟩), State.bexcItem]
    refine State.runItem_congr hw ?_
    rw [hitem, if_neg (by omega), h32]
    simp only [hexp]
  · refine State.runItem_congr hw ?_
    rw [hitem, if_pos (by omega)]
    simp only [hexp]

theorem exec_decodeExcArea (x : Byte) {num b n : Nat} {g : List Word} (hw : s.engine = .busy w left (some r))
    (hexp : r.expect = .excArea num b n g) : exec (decodeExcArea x) s = s.runItem fun r => s.itemAt r x := by
  unfold decodeExcArea
  split_ifs with hff
  · refine State.runItem_congr hw ?_
    simp only [State.itemAt, hexp, if_pos (BitVec.eq_of_toNat_eq hff : x = 0xFF#8)]
  · refine State.runItem_congr hw ?_
    simp only [State.itemAt, hexp, if_neg (fun h => hff (h ▸ rfl) : ¬ x = 0xFF#8)]

/-- A stream byte, decoded in the format the command in flight awaits, is that command's next item (R216). -/
theorem exec_decodeByte (x : Byte) (hw : s.engine = .busy w left (some r)) :
    exec (decodeByte (r.format s.params.bs) x) s = s.runItem fun r => s.itemAt r x := by
  cases hexp : r.expect with
  | header =>
    have hf : r.format s.params.bs = .hdr (r.useIL s.params.bs) := by simp only [Run.format, hexp]
    rw [hf]
    exact exec_decodeHdr x hw hexp
  | bexc hdr num b il =>
    have hf : r.format s.params.bs = .bexc := by simp only [Run.format, hexp]
    rw [hf]
    exact exec_decodeBexc x hw hexp
  | excArea num b n g =>
    have hf : r.format s.params.bs = .excArea := by simp only [Run.format, hexp]
    rw [hf]
    exact exec_decodeExcArea x hw hexp
  | scalarBaseval | seed =>
    have hf : r.format s.params.bs = .basevalByte := by simp only [Run.format, hexp]
    rw [hf]
    refine (exec_decodeBasevalByte s x).trans (State.runItem_congr hw ?_)
    simp only [State.itemAt, hexp]
  | scalarVb | excVb num b n g xs =>
    have hf : r.format s.params.bs = .vbByte := by simp only [Run.format, hexp]
    rw [hf]
    refine (exec_decodeVbByte s x).trans (State.runItem_congr hw ?_)
    simp only [State.itemAt, hexp]

/-- A step of a command in flight whose time has come is its next item, TRUNCATED where the stream ends (R222). -/
theorem step_item (hw : s.engine = .busy w 0 (some r)) : step s = s.runItem s.nextItem := by
  rw [s.runItem_busy _ w 0 r hw, State.nextItem]
  cases hbyte : s.streamByte r with
  | error e =>
    cases e with
    | engine code off => simp only [step, State.fetch, hw, hbyte, Res.bind_error]
    | model f => simp only [step, State.fetch, hw, hbyte, Res.bind_error]
  | ok x =>
    have hstep : step s = exec (decodeByte (r.format s.params.bs) x) s := by
      simp only [step, State.fetch, hw, hbyte]
    rw [hstep, exec_decodeByte x hw, s.runItem_busy _ w 0 r hw]
    rfl

end NextItem

end Sys2Proof.Machine

/-! The invariant (spec/10_state.md, spec/20_memory.md): what a command in flight may hold, and that the engine's steps
keep it. -/

namespace Sys2Proof.Machine

/-! ### The parts of the invariant -/

theorem State.idsOk_iff {s : State} {r : Run} : s.idsOk r = true ↔
    1 ≤ r.todo ∧ r.out.length + r.todo = s.count.toNat ∧ s.outIdx.toNat + s.count.toNat ≤ s.params.outCap := by
  simp only [State.idsOk, Bool.and_eq_true, decide_eq_true_iff, and_assoc]

theorem State.blockOk_iff {s : State} {r : Run} {num b : Nat} : s.blockOk r num b = true ↔
    s.idsOk r = true ∧ num = r.num s.params.bs ∧ b ≤ 32 := by
  simp only [State.blockOk, Bool.and_eq_true, decide_eq_true_iff, and_assoc]

/-- The invariant sees the state through these fields alone. -/
theorem State.Inv.congr {s t : State} (h : s.Inv) (hparams : t.params = s.params) (hibuf : t.ibuf = s.ibuf)
    (hobuf : t.obuf = s.obuf) (herr : t.err = s.err) (hcode : t.errCode = s.errCode) (hdone : t.done = s.done)
    (hengine : t.engine = s.engine) (hcount : t.count = s.count) (hout : t.outIdx = s.outIdx) : t.Inv := by
  have hids (r : Run) : t.idsOk r = s.idsOk r := by simp only [State.idsOk, hcount, hout, hparams]
  have hblock (r : Run) (num b : Nat) : t.blockOk r num b = s.blockOk r num b := by
    simp only [State.blockOk, hids, hparams]
  simpa only [State.Inv, State.MemOk, State.StatusOk, State.runOk, State.busy, hparams, hibuf, hobuf, herr, hcode,
    hdone, hengine, hids, hblock] using h

theorem State.Inv.runOk {s : State} (h : s.Inv) : s.runOk = true := by
  obtain ⟨-, -, -, hrun⟩ := h
  exact hrun

/-- An IDLE engine has no command-local state and no BUSY flag to keep. -/
theorem State.inv_of_idle {s : State} (hidle : s.engine = .idle) (hlegal : s.params.legal = true) (hmem : s.MemOk)
    (herr : s.err = decide (s.errCode ≠ 0)) (hcode : s.errCode.toNat ≤ 10) : s.Inv := by
  refine ⟨hlegal, hmem, ⟨herr, hcode, fun hbusy => ?_⟩, ?_⟩
  · rw [State.busy, hidle] at hbusy
    cases hbusy
  · rw [State.runOk, hidle]

/-- Words written inside OBUF keep the memories' part. -/
theorem State.MemOk.of_writeAll {s t : State} (h : s.MemOk) {o : Nat} {out : List Word}
    (hfit : out = [] ∨ o + out.length ≤ s.params.outCap) (hparams : t.params = s.params) (hibuf : t.ibuf = s.ibuf)
    (hobuf : t.obuf = s.obuf.writeAll o out) : t.MemOk := by
  obtain ⟨hiwf, howf, hi, ho⟩ := h
  rw [State.MemOk, hparams, hibuf, hobuf]
  refine ⟨hiwf, Memory.wf_writeAll _ _ _ howf, hi, fun p hp => ?_⟩
  obtain ⟨hge, hlt⟩ | hp := Memory.mem_writeAll _ _ _ _ hp
  · obtain rfl | hfit := hfit
    · simp only [List.length_nil] at hlt
      omega
    · omega
  · exact ho p hp

/-- Words drawn freely inside OBUF keep the memories' part. -/
theorem State.MemOk.of_scramble {s t : State} (h : s.MemOk) {o k n : Nat} (hparams : t.params = s.params)
    (hibuf : t.ibuf = s.ibuf) (hobuf : t.obuf = s.obuf.scramble o k s.params.outCap n) : t.MemOk := by
  obtain ⟨hiwf, howf, hi, ho⟩ := h
  rw [State.MemOk, hparams, hibuf, hobuf]
  refine ⟨hiwf, Memory.wf_scramble _ _ _ _ _ howf, hi, fun p hp => ?_⟩
  obtain hlt | hp := Memory.mem_scramble _ _ _ _ _ _ hp
  · exact hlt
  · exact ho p hp

/-! ### How a command ends -/

theorem State.Inv.faultEntry {s : State} (h : s.Inv) (code : FaultCode) (off n : Nat) :
    (s.faultEntry code off n).Inv := by
  obtain ⟨hlegal, hmem, -, -⟩ := h
  exact State.inv_of_idle rfl hlegal (hmem.of_scramble rfl rfl rfl)
    (decide_eq_true code.code_ne_zero).symm code.code_le_ten

theorem State.Inv.complete {s t : State} (h : s.Inv) {out : List Word} (hstaged : s.Staged t out)
    (hfit : out = [] ∨ s.outIdx.toNat + out.length ≤ s.params.outCap) : t.complete.Inv := by
  obtain ⟨hlegal, hmem, ⟨herr, hcode, -⟩, -⟩ := h
  have hobuf := hstaged.obuf
  rw [hstaged.frame] at hobuf ⊢
  exact State.inv_of_idle rfl hlegal (hmem.of_writeAll hfit rfl rfl hobuf) herr hcode

/-! ### A command in flight -/

/-- Where an item may leave the command `w` in flight: in a run the invariant allows, or with results that fit OBUF. -/
def State.progressOk (s : State) (w : Word) (left : Nat) : Progress → Prop
  | .more r => ({ s with engine := .busy w left (some r) } : State).runOk = true
  | .finished t => ∃ out, s.Staged t out ∧ (out = [] ∨ s.outIdx.toNat + out.length ≤ s.params.outCap)

section InFlight

variable {s : State} {w : Word} {left : Nat} {r : Run} {p : Progress}

/-- An item that answers so keeps the invariant. -/
theorem State.Inv.advance (h : s.Inv) (hw : s.engine = .busy w left (some r)) (hp : s.progressOk w left p) :
    (s.advance w left p).Inv := by
  cases p with
  | finished t =>
    obtain ⟨out, hstaged, hfit⟩ := hp
    exact h.complete hstaged hfit
  | more r' =>
    obtain ⟨hlegal, hmem, ⟨herr, hcode, hbusy⟩, -⟩ := h
    have hs : s.busy = true := by rw [State.busy, hw]
    exact ⟨hlegal, hmem, ⟨herr, hcode, fun _ => hbusy hs⟩, hp⟩

theorem State.progressOk_finished_scalar (v : Word) (len : Nat) :
    s.progressOk w left (.finished (s.commitScalar v len)) := ⟨[], s.staged_commitScalar v len, .inl rfl⟩

theorem State.progressOk_nextBlock (hlen : r.out.length + r.todo = s.count.toNat)
    (hfit : s.outIdx.toNat + s.count.toNat ≤ s.params.outCap) : s.progressOk w left (s.nextBlock r) := by
  unfold State.nextBlock
  split_ifs with hzero
  · exact ⟨r.out, s.staged_commitIds _ _, .inr (by omega)⟩
  · exact State.idsOk_iff.2 ⟨Nat.one_le_iff_ne_zero.2 hzero, hlen, hfit⟩

/-- A block of the positions due keeps the count. -/
theorem State.progressOk_endBlock {ge : List Word × Nat} (hids : s.idsOk r = true)
    (hlen : ge.1.length = r.num s.params.bs) : s.progressOk w left (s.endBlock r ge) := by
  obtain ⟨-, hcount, hfit⟩ := State.idsOk_iff.1 hids
  refine State.progressOk_nextBlock ?_ hfit
  have hnum : r.num s.params.bs ≤ r.todo := Nat.min_le_left _ _
  simp only [List.length_append, scan_length, hlen]
  omega

/-- A full block is due wherever the interleaved flavour is (R171). -/
theorem Run.num_of_useIL {bs : Nat} (h : r.useIL bs = true) : r.num bs = bs := by
  rw [Run.useIL, Bool.and_eq_true] at h
  exact of_decide_eq_true h.2

theorem State.pforVbPatch_length {num b e e' : Nat} {g xs g' : List Word}
    (h : s.pforVbPatch num b g xs e = .ok (g', e')) : g'.length = g.length := by
  obtain ⟨-, h⟩ := State.need_bind_eq_ok.1 h
  exact (s.patchFrom_length _ _ _ _ _ _ _ h).1

theorem State.pforBitmapBody_length {c num b E e : Nat} {il : Bool} {g : List Word}
    (h : s.pforBitmapBody c num b E il = .ok (g, e)) (hil : il = true → num = s.params.bs) : g.length = num := by
  obtain ⟨_, _, _, _, _, base, _, -, -, -, -, -, -, -, -, -, hbase, -, rfl, -⟩ :=
    (s.pforBitmapBody_ok _ _ _ _ _ _ _).1 h
  exact (orAll_length _ _ _).trans (State.gaps_length hbase hil)

/-- What a legal header leads to (R171–R179). -/
theorem State.progressOk_nextHeader {ty : BlockType} {b : Nat} (hids : s.idsOk r = true) (hb : b ≤ 32)
    (hc : r.cur < s.inLen.toNat) (h : s.nextHeader r ty b = .ok p) : s.progressOk w left p := by
  have hfull := Run.num_of_useIL (r := r) (bs := s.params.bs)
  cases ty with
  | constant =>
    obtain ⟨ge, hge, h⟩ := (Res.bind_eq_ok _ _ _).1 h
    cases h
    exact State.progressOk_endBlock hids (State.constantGaps_shape hge hc).1
  | for_ =>
    obtain ⟨ge, hge, h⟩ := (Res.bind_eq_ok _ _ _).1 h
    cases h
    exact State.progressOk_endBlock hids (State.forGaps_shape hge hfull hc).1
  | pforBitmap =>
    cases h
    change (State.blockOk _ _ _ _ && _) = true
    rw [Bool.and_eq_true]
    refine ⟨State.blockOk_iff.2 ⟨hids, rfl, hb⟩, ?_⟩
    cases hil : r.useIL s.params.bs with
    | false => rfl
    | true => exact decide_eq_true (hfull hil)
  | pforVb =>
    obtain ⟨hfit, h⟩ := State.need_bind_eq_ok.1 h
    obtain ⟨n, -, h⟩ := State.byte_bind_eq_ok.1 h
    obtain ⟨⟨g, e0⟩, hbase, h⟩ := (Res.bind_eq_ok _ _ _).1 h
    have hlen := (State.pforVbBase_shape hbase hfull (by omega)).1
    dsimp only at h
    split_ifs at h with hzero
    · obtain ⟨e, -, h⟩ := (Res.bind_eq_ok _ _ _).1 h
      obtain ⟨⟨g', e'⟩, hpatch, h⟩ := (Res.bind_eq_ok _ _ _).1 h
      cases h
      exact State.progressOk_endBlock hids ((State.pforVbPatch_length hpatch).trans hlen)
    · cases h
      have hn := n.isLt
      change (State.blockOk _ _ _ _ && _ && _ && _) = true
      simp only [Bool.and_eq_true, decide_eq_true_iff]
      exact ⟨⟨⟨State.blockOk_iff.2 ⟨hids, rfl, hb⟩, Nat.one_le_iff_ne_zero.2 hzero⟩, by omega⟩, hlen⟩

/-- The items of a command in flight keep the invariant's part on command-local state. -/
theorem State.progressOk_nextItem (hrun : s.runOk = true) (hw : s.engine = .busy w left (some r))
    (h : s.nextItem r = .ok p) : s.progressOk w left p := by
  obtain ⟨x, hx, h⟩ := (Res.bind_eq_ok _ _ _).1 h
  obtain ⟨hc, hx⟩ := State.need_bind_eq_ok.1 hx
  unfold State.itemAt at h
  rw [State.runOk, hw] at hrun
  dsimp only at hrun
  cases hexp : r.expect with
  | scalarBaseval | scalarVb =>
    rw [hexp] at h
    obtain ⟨q, -, h⟩ := (Res.bind_eq_ok _ _ _).1 h
    cases h
    exact State.progressOk_finished_scalar _ _
  | seed =>
    rw [hexp] at h hrun
    obtain ⟨q, -, h⟩ := (Res.bind_eq_ok _ _ _).1 h
    cases h
    rw [Bool.and_eq_true, decide_eq_true_iff] at hrun
    obtain ⟨hids, hnil⟩ := hrun
    obtain ⟨hpos, hcount, hfit⟩ := State.idsOk_iff.1 hids
    rw [hnil, List.length_nil, Nat.zero_add] at hcount
    refine State.progressOk_nextBlock ?_ hfit
    change 1 + (r.todo - 1) = _
    omega
  | header =>
    rw [hexp] at h hrun
    obtain ⟨hb, h⟩ := ite_raise_eq_ok.1 h
    exact State.progressOk_nextHeader hrun (Nat.not_lt.1 hb) (by omega) h
  | bexc hdr num b il =>
    rw [hexp] at h hrun
    obtain ⟨-, h⟩ := ite_raise_eq_ok.1 h
    obtain ⟨ge, hge, h⟩ := (Res.bind_eq_ok _ _ _).1 h
    cases h
    rw [Bool.and_eq_true] at hrun
    obtain ⟨hblock, hil⟩ := hrun
    obtain ⟨hids, hnum, -⟩ := State.blockOk_iff.1 hblock
    refine State.progressOk_endBlock hids ((State.pforBitmapBody_length hge fun htrue => ?_).trans hnum)
    rw [htrue] at hil
    exact of_decide_eq_true hil
  | excArea num b n g =>
    rw [hexp] at h hrun
    simp only [Bool.and_eq_true, decide_eq_true_iff] at hrun
    obtain ⟨⟨⟨hblock, hpos⟩, hn⟩, hlen⟩ := hrun
    obtain ⟨hids, hnum, hb⟩ := State.blockOk_iff.1 hblock
    dsimp only at h
    split_ifs at h
    · obtain ⟨⟨xs, e⟩, -, h⟩ := (Res.bind_eq_ok _ _ _).1 h
      obtain ⟨⟨g', e'⟩, hpatch, h⟩ := (Res.bind_eq_ok _ _ _).1 h
      cases h
      exact State.progressOk_endBlock hids ((State.pforVbPatch_length hpatch).trans (hlen.trans hnum))
    · cases h
      change (State.blockOk _ _ _ _ && _ && _ && _) = true
      simp only [Bool.and_eq_true, decide_eq_true_iff]
      exact ⟨⟨⟨State.blockOk_iff.2 ⟨hids, hnum, hb⟩, hn⟩, hlen⟩, hpos⟩
  | excVb num b n g xs =>
    rw [hexp] at h hrun
    simp only [Bool.and_eq_true, decide_eq_true_iff] at hrun
    obtain ⟨⟨⟨hblock, hn⟩, hlen⟩, hxs⟩ := hrun
    obtain ⟨hids, hnum, hb⟩ := State.blockOk_iff.1 hblock
    obtain ⟨q, -, h⟩ := (Res.bind_eq_ok _ _ _).1 h
    dsimp only at h
    split_ifs at h with hlast
    · obtain ⟨⟨g', e'⟩, hpatch, h⟩ := (Res.bind_eq_ok _ _ _).1 h
      cases h
      exact State.progressOk_endBlock hids ((State.pforVbPatch_length hpatch).trans (hlen.trans hnum))
    · cases h
      change (State.blockOk _ _ _ _ && _ && _ && _) = true
      simp only [Bool.and_eq_true, decide_eq_true_iff, List.length_append, List.length_singleton]
      exact ⟨⟨⟨State.blockOk_iff.2 ⟨hids, hnum, hb⟩, hn⟩, hlen⟩, by omega⟩

end InFlight

/-! ### The engine's steps -/

/-- An instruction of the CMD format is a command or ILLEGAL_CMD (R102, R103). -/
theorem isCommand_or_isIllegalCmd {i : Instr} (hi : i.format = .cmd) : i.isCommand = true ∨ i.isIllegalCmd = true := by
  cases hcmd : i.isCommand with
  | true => exact .inl rfl
  | false =>
    refine .inr ?_
    rw [Instr.isIllegalCmd, hi, hcmd]
    rfl

theorem State.Inv.exec_cmd {s t : State} (h : s.Inv) {w : Word} (hexec : exec (decodeCmd w) s = .next t) : t.Inv := by
  obtain hcmd | hill := isCommand_or_isIllegalCmd (decodeCmd_format w)
  · obtain ⟨u, out, rfl, hstaged, -, hfit⟩ | ⟨code, off, rfl⟩ := exec_command_next hcmd hexec
    · exact h.complete hstaged hfit
    · exact h.faultEntry code off _
  · rw [exec_illegal s hill, State.illegalCmd] at hexec
    cases hexec
    exact h.faultEntry _ _ _

theorem State.Inv.item {s t : State} (h : s.Inv) {w : Word} {r : Run} (hw : s.engine = .busy w 0 (some r))
    (hstep : step s = .next t) : t.Inv := by
  rw [step_item hw, State.runItem_next] at hstep
  obtain ⟨w', left, r', hw', ⟨p, hp, rfl⟩ | ⟨code, off, -, rfl⟩⟩ := hstep
  · exact h.advance hw' (State.progressOk_nextItem h.runOk hw' hp)
  · exact h.faultEntry code off _

end Sys2Proof.Machine

/-! The host's moves keep the invariant (spec/10_state.md, spec/20_memory.md, spec/70_reset_and_hazards.md). -/

namespace Sys2Proof.Machine

/-- What a command proceeding item by item starts from (R32, R52), after its checks. -/
theorem State.startRun_some {s : State} {w : Word} {r : Run} (h : s.startRun w = some r) :
    (∃ il, decodeCmd w = .baseval il ∧ s.checkInLen = .ok () ∧ r = ⟨s.cur.toNat, 0, [], 0, false, .scalarBaseval⟩) ∨
      (∃ il, decodeCmd w = .vb il ∧ s.checkInLen = .ok () ∧ r = ⟨s.cur.toNat, 0, [], 0, false, .scalarVb⟩) ∨
      (∃ il, decodeCmd w = (if il then .blockIl else .block) ∧ s.blockChecks = .ok () ∧
        r = ⟨s.cur.toNat, s.prev, [], s.count.toNat, il, .header⟩) ∨
      ∃ il, decodeCmd w = (if il then .seqIl else .seq) ∧ s.seqChecks = .ok () ∧ s.count.toNat ≠ 0 ∧
        r = ⟨s.cur.toNat, 0, [], s.count.toNat, il, .seed⟩ := by
  unfold State.startRun at h
  generalize decodeCmd w = i at h ⊢
  cases i with
  | baseval il =>
    obtain ⟨hcheck, hr⟩ := Option.ite_none_right_eq_some.1 h
    exact .inl ⟨il, rfl, hcheck, (Option.some.inj hr).symm⟩
  | vb il =>
    obtain ⟨hcheck, hr⟩ := Option.ite_none_right_eq_some.1 h
    exact .inr (.inl ⟨il, rfl, hcheck, (Option.some.inj hr).symm⟩)
  | block =>
    obtain ⟨hcheck, hr⟩ := Option.ite_none_right_eq_some.1 h
    exact .inr (.inr (.inl ⟨false, rfl, hcheck, (Option.some.inj hr).symm⟩))
  | blockIl =>
    obtain ⟨hcheck, hr⟩ := Option.ite_none_right_eq_some.1 h
    exact .inr (.inr (.inl ⟨true, rfl, hcheck, (Option.some.inj hr).symm⟩))
  | seq =>
    obtain ⟨⟨hcheck, hcount⟩, hr⟩ := Option.ite_none_right_eq_some.1 h
    exact .inr (.inr (.inr ⟨false, rfl, hcheck, hcount, (Option.some.inj hr).symm⟩))
  | seqIl =>
    obtain ⟨⟨hcheck, hcount⟩, hr⟩ := Option.ite_none_right_eq_some.1 h
    exact .inr (.inr (.inr ⟨true, rfl, hcheck, hcount, (Option.some.inj hr).symm⟩))
  | _ => cases h

/-- A command starts in command-local state the invariant allows. -/
theorem State.runOk_startRun {s : State} {w : Word} {left : Nat} {r : Run} (h : s.startRun w = some r) :
    ({ s with engine := .busy w left (some r) } : State).runOk = true := by
  obtain ⟨il, -, -, rfl⟩ | ⟨il, -, -, rfl⟩ | ⟨il, -, hchecks, rfl⟩ | ⟨il, -, hchecks, hcount, rfl⟩ :=
    State.startRun_some h
  · rfl
  · rfl
  · obtain ⟨-, hpos, -, hout⟩ := State.blockChecks_ok_iff.1 hchecks
    exact State.idsOk_iff.2 ⟨hpos, Nat.zero_add _, hout⟩
  · obtain ⟨-, hout⟩ := State.seqChecks_ok_iff.1 hchecks
    refine Bool.and_eq_true_iff.2 ⟨State.idsOk_iff.2 ⟨Nat.one_le_iff_ne_zero.2 hcount, Nat.zero_add _, hout⟩, ?_⟩
    exact decide_eq_true rfl

theorem State.engine_of_not_busy {s : State} (hbusy : ¬ s.busy = true) : s.engine = .idle := by
  unfold State.busy at hbusy
  cases hengine : s.engine with
  | idle => rfl
  | busy w left run =>
    rw [hengine] at hbusy
    exact absurd rfl hbusy

section Keeps

variable {s : State} (h : s.Inv)

include h

/-! ### Time, reads and resets -/

/-- A step of the host's time, its list shortened by the move it makes. -/
theorem State.Inv.turn (rest : List HostOp) : State.Inv { s.tick with hostQ := rest } := by
  cases hengine : s.engine with
  | idle =>
    rw [s.tick_idle hengine]
    exact h.congr rfl rfl rfl rfl rfl rfl rfl rfl rfl
  | busy w left run =>
    obtain ⟨hlegal, hmem, ⟨herr, hcode, hbusy⟩, hrun⟩ := h
    rw [s.tick_busy w left run hengine]
    refine ⟨hlegal, hmem, ⟨herr, hcode, fun _ => hbusy (by rw [State.busy, hengine])⟩, ?_⟩
    rw [State.runOk, hengine] at hrun
    cases run with
    | none => rfl
    | some r => exact hrun

theorem State.Inv.tick : s.tick.Inv := (h.turn s.tick.hostQ).congr rfl rfl rfl rfl rfl rfl rfl rfl rfl

theorem State.Inv.readReg (r : Reg) : (s.readReg r).Inv := by
  unfold State.readReg
  split_ifs
  · exact h.congr rfl rfl rfl rfl rfl rfl rfl rfl rfl
  · exact h.congr rfl rfl rfl rfl rfl rfl rfl rfl rfl

theorem State.Inv.readIbuf (a : Nat) : (s.readIbuf a).Inv := by
  unfold State.readIbuf
  split
  · exact h.congr rfl rfl rfl rfl rfl rfl rfl rfl rfl
  · exact h.congr rfl rfl rfl rfl rfl rfl rfl rfl rfl

theorem State.Inv.readObuf (k : Nat) : (s.readObuf k).Inv := by
  unfold State.readObuf
  split_ifs
  · exact h.congr rfl rfl rfl rfl rfl rfl rfl rfl rfl
  · split
    · exact h.congr rfl rfl rfl rfl rfl rfl rfl rfl rfl
    · exact h.congr rfl rfl rfl rfl rfl rfl rfl rfl rfl

theorem State.Inv.hostRead (sp : Space) (a : Nat) : (s.hostRead sp a).Inv := by
  cases sp with
  | reg => exact h.readReg _
  | ibuf => exact h.readIbuf _
  | obuf => exact h.readObuf _

theorem State.Inv.softReset : s.softReset.Inv := by
  obtain ⟨hlegal, hmem, -, -⟩ := h
  exact State.inv_of_idle rfl hlegal (hmem.of_scramble rfl rfl rfl) rfl (Nat.zero_le 10)

theorem State.Inv.powerOn : s.powerOn.Inv := by
  obtain ⟨hlegal, -, -, -⟩ := h
  exact State.inv_of_idle rfl hlegal ⟨rfl, rfl, nofun, nofun⟩ rfl (Nat.zero_le 10)

/-! ### Writes -/

theorem State.Inv.overrun : s.overrun.Inv := h.congr rfl rfl rfl rfl rfl rfl rfl rfl rfl

theorem State.Inv.writeCtrl (v : Word) : (s.writeCtrl v).Inv := by
  unfold State.writeCtrl
  split_ifs
  · exact h.softReset
  · exact h.congr rfl rfl rfl rfl rfl rfl rfl rfl rfl

theorem State.Inv.accept (v : Word) : (s.accept v).Inv := by
  obtain ⟨hlegal, hmem, -, -⟩ := h
  refine ⟨hlegal, hmem, ⟨rfl, Nat.zero_le 10, fun _ => ⟨rfl, rfl⟩⟩, ?_⟩
  rw [State.runOk, State.accept_engine]
  cases hrun : if Config.itemwise s.draws then s.startRun v else none with
  | none => rfl
  | some r => exact State.runOk_startRun (left := Config.latency s.draws) (Option.ite_none_right_eq_some.1 hrun).2

theorem State.Inv.clearStatus (v : Word) (hidle : s.engine = .idle) : (s.clearStatus v).Inv := by
  obtain ⟨hlegal, hmem, ⟨herr, hcode, -⟩, -⟩ := h
  refine State.inv_of_idle hidle hlegal hmem ?_ ?_
  · rw [State.clearStatus_err, State.clearStatus_errCode]
    cases v.getLsbD 2 with
    | true => exact Bool.and_false _
    | false => exact (Bool.and_true _).trans herr
  · rw [State.clearStatus_errCode]
    split_ifs
    · exact Nat.zero_le 10
    · exact hcode

/-- A register write while IDLE (R33–R51). -/
theorem State.Inv.writeRegIdle (r : Reg) (v : Word) (hidle : r.guarded = true → s.engine = .idle) :
    (s.writeRegIdle r v).Inv := by
  have hset (t : State) (ht : t = s.writeRegIdle r v) (hg : r.guarded = true) (hengine : t.engine = s.engine)
      (hparams : t.params = s.params) (hibuf : t.ibuf = s.ibuf) (hobuf : t.obuf = s.obuf) (herr : t.err = s.err)
      (hcode : t.errCode = s.errCode) : t.Inv := by
    obtain ⟨hlegal, hmem, ⟨herr', hcode', -⟩, -⟩ := h
    refine State.inv_of_idle (hengine.trans (hidle hg)) (hparams ▸ hlegal) ?_ (by rw [herr, hcode, herr'])
      (hcode ▸ hcode')
    rwa [State.MemOk, hparams, hibuf, hobuf]
  cases r with
  | ctrl => exact h.writeCtrl v
  | cmd => exact h.accept v
  | status => exact h.clearStatus v (hidle rfl)
  | cur | inLen | count | outIdx | prev | bw => exact hset _ rfl rfl rfl rfl rfl rfl rfl rfl
  | config | resultLo | resultHi | errOff | consumed | reserved => exact h

theorem State.Inv.writeReg (r : Reg) (v : Word) : (s.writeReg r v).Inv := by
  unfold State.writeReg
  split_ifs with hlost
  · exact h.overrun
  · rw [Bool.and_eq_true, not_and'] at hlost
    exact h.writeRegIdle r v fun hguarded => State.engine_of_not_busy (hlost hguarded)

theorem State.Inv.writeIbuf {a : Nat} (x : Byte) (ha : a < s.params.inCap) : (s.writeIbuf a x).Inv := by
  unfold State.writeIbuf
  split_ifs with hbusy
  · exact h.overrun
  · obtain ⟨hlegal, ⟨hiwf, howf, hi, ho⟩, ⟨herr, hcode, -⟩, -⟩ := h
    refine State.inv_of_idle (State.engine_of_not_busy hbusy) hlegal ⟨Memory.wf_write _ _ _ hiwf, howf, ?_, ho⟩ herr
      hcode
    intro p hp
    obtain rfl | hp := Memory.mem_write _ _ _ _ hp
    · exact ha
    · exact hi p hp

theorem State.Inv.writeObuf {k : Nat} (w : Word) (hk : k < s.params.outCap) : (s.writeObuf k w).Inv := by
  unfold State.writeObuf
  split_ifs with hbusy
  · exact h.overrun
  · obtain ⟨hlegal, ⟨hiwf, howf, hi, ho⟩, ⟨herr, hcode, -⟩, -⟩ := h
    refine State.inv_of_idle (State.engine_of_not_busy hbusy) hlegal ⟨hiwf, Memory.wf_write _ _ _ howf, hi, ?_⟩ herr
      hcode
    intro p hp
    obtain rfl | hp := Memory.mem_write _ _ _ _ hp
    · exact hk
    · exact ho p hp

theorem State.Inv.hostWrite (sp : Space) {a : Nat} (v : Word) (ha : a < sp.size s.params) :
    (s.hostWrite sp a v).Inv := by
  cases sp with
  | reg => exact h.writeReg _ v
  | ibuf => exact h.writeIbuf _ ha
  | obuf => exact h.writeObuf _ ha

/-! ### A move and a turn -/

theorem State.Inv.hostMove {op : HostOp} {t : State} (hmove : s.hostMove op = .next t) : t.Inv := by
  obtain ⟨sp, a, width, -, -, rfl⟩ | ⟨sp, a, width, v, -, ha, rfl⟩ | ⟨-, rfl | rfl⟩ | ⟨-, rfl | rfl⟩ | ⟨-, rfl⟩ :=
    s.hostMove_next op t hmove
  · exact h.hostRead sp a
  · exact h.hostWrite sp v ha
  · exact h.readReg _
  · exact (h.readReg _).congr rfl rfl rfl rfl rfl rfl rfl rfl rfl
  · exact h
  · exact h.congr rfl rfl rfl rfl rfl rfl rfl rfl rfl
  · exact h.powerOn

theorem State.Inv.hostTurn {t : State} (hturn : s.hostTurn = .next t) : t.Inv := by
  obtain ⟨-, rfl⟩ | ⟨op, rest, -, hmove⟩ := s.hostTurn_next t hturn
  · exact h.tick
  · exact (h.turn rest).hostMove hmove

end Keeps

/-- Settles O54: the engine's steps by the items' and commands' own frames, the host's turn move by move. -/
theorem stepKeepsInvariant : Obligations.StepKeepsInvariant := by
  intro s t h hstep
  cases hengine : s.engine with
  | idle =>
    rw [step, s.fetch_idle hengine] at hstep
    exact h.hostTurn hstep
  | busy w left run =>
    cases left with
    | succ left =>
      rw [step, s.fetch_waiting w left run hengine] at hstep
      exact h.hostTurn hstep
    | zero =>
      cases run with
      | none =>
        rw [step, s.fetch_cmd w hengine] at hstep
        exact h.exec_cmd hstep
      | some r => exact h.item hengine hstep

/-- Settles O9. -/
theorem resetSatisfiesInvariant : Obligations.ResetSatisfiesInvariant := by
  have hin : 1 ≤ Params.default.inCap ∧ Params.default.inCap < 2 ^ 32 := by
    change 1 ≤ Config.inCap ∧ Config.inCap < 2 ^ 32
    unfold Config.inCap
    omega
  have hout : 1 ≤ Params.default.outCap ∧ Params.default.outCap < 2 ^ 32 := by
    change 1 ≤ Config.outCap ∧ Config.outCap < 2 ^ 32
    unfold Config.outCap
    omega
  have hlegal : Params.default.legal = true := by
    simp only [Params.legal, Bool.and_eq_true, decide_eq_true_iff, hin, hout, and_self]
  exact State.inv_of_idle rfl hlegal ⟨rfl, rfl, nofun, nofun⟩ rfl (Nat.zero_le 10)

end Sys2Proof.Machine

/-! The host's accesses and the resets (spec/10_state.md, spec/20_memory.md, spec/60_exceptions.md R234, R241). -/

namespace Sys2Proof.Machine

/-! ### Resets -/

/-- Every register but CONFIG holds its reset value and the phase is IDLE (R61). -/
def State.IsReset (t : State) : Prop :=
  t = { State.reset with
    params := t.params, ibuf := t.ibuf, obuf := t.obuf, draws := t.draws, hostQ := t.hostQ, readData := t.readData }

theorem State.IsReset.regValue {t : State} (h : t.IsReset) {r : Reg} (hr : r ≠ .config) : t.regValue r = 0 := by
  rw [h]
  cases r with
  | config => exact absurd rfl hr
  | ctrl =>
    change 0#31 ++ BitVec.ofBool false = 0#32
    decide
  | status =>
    change 0#20 ++ 0#4 ++ 0#4 ++ BitVec.ofBool false ++ BitVec.ofBool false ++ BitVec.ofBool false ++
      BitVec.ofBool false = 0#32
    decide
  | cmd | cur | inLen | count | outIdx | prev | bw | resultLo | resultHi | errOff | consumed | reserved => rfl

theorem State.IsReset.busy {t : State} (h : t.IsReset) : t.busy = false := by
  rw [h]
  rfl

theorem State.IsReset.irq {t : State} (h : t.IsReset) : t.irq = false := by
  rw [h]
  rfl

/-- OBUF after soft reset, but for the words of an aborted command (R253). -/
theorem State.softReset_obuf_read {s : State} {k : Nat}
    (hk : ¬ (s.outIdx.toNat ≤ k ∧ k < s.outIdx.toNat + s.runningWriteSet)) :
    s.softReset.obuf.read k = s.obuf.read k := Memory.read_scramble_other _ _ _ _ _ _ hk

/-- Settles O10: both resets are `State.reset` but for CONFIG's parameters, the memories and the model's own fields. -/
theorem resetValues : Obligations.ResetValues := by
  intro s
  have hreset (t : State) (ht : t ∈ [State.reset, s.softReset, s.powerOn]) : t.IsReset := by
    simp only [List.mem_cons, List.not_mem_nil, or_false] at ht
    obtain rfl | rfl | rfl := ht <;> rfl
  have hempty (t : State) (ht : t ∈ [State.reset, s.powerOn]) (a : Nat) :
      t.ibuf.read a = none ∧ t.obuf.read a = none := by
    simp only [List.mem_cons, List.not_mem_nil, or_false] at ht
    obtain rfl | rfl := ht <;> exact ⟨rfl, rfl⟩
  exact ⟨fun t ht => ⟨fun r hr => (hreset t ht).regValue hr, (hreset t ht).busy, (hreset t ht).irq⟩,
    State.configWord_congr s.softReset_params, State.configWord_congr s.powerOn_params,
    State.reset.configWord_default rfl rfl rfl, hempty, rfl, fun k hk => State.softReset_obuf_read hk⟩

/-! ### Register writes, by phase -/

section Writes

variable {s : State} {r : Reg} {v : Word} {rest : List HostOp}

theorem State.writeReg_of_idle (h : s.busy = false) : s.writeReg r v = s.writeRegIdle r v := by
  rw [State.writeReg, h]
  rfl

theorem State.writeReg_of_busy (h : s.busy = true) (hr : r.guarded = true) : s.writeReg r v = s.overrun := by
  rw [State.writeReg, h, hr]
  rfl

theorem State.writeIbuf_of_idle {a : Nat} {x : Byte} (h : s.busy = false) :
    s.writeIbuf a x = { s with ibuf := s.ibuf.write a x } := by
  rw [State.writeIbuf, h]
  rfl

theorem State.writeIbuf_of_busy {a : Nat} {x : Byte} (h : s.busy = true) : s.writeIbuf a x = s.overrun := by
  rw [State.writeIbuf, h]
  rfl

theorem State.writeObuf_of_idle {k : Nat} {w : Word} (h : s.busy = false) :
    s.writeObuf k w = { s with obuf := s.obuf.write k w } := by
  rw [State.writeObuf, h]
  rfl

theorem State.writeObuf_of_busy {k : Nat} {w : Word} (h : s.busy = true) : s.writeObuf k w = s.overrun := by
  rw [State.writeObuf, h]
  rfl

/-! ### The host's turn writes a reserved offset, an IBUF byte or an OBUF word -/

/-- A write to a reserved offset only uses up the move (R58). -/
theorem step_write_reserved {off : Nat} (hf : s.fetch = .host) (hlo : 0x38 ≤ off) (hhi : off < 0x100)
    (halign : off % 4 = 0) (hq : s.hostQ = .write .reg (s.params.regBase + off) 4 v :: rest) :
    step s = .next { s.tick with hostQ := rest } := by
  rw [step_host_write s .reg off 4 v rest hf hq hhi (regAccess_allowed _ _ halign), State.hostWrite,
    regAt_reserved off hlo, State.writeReg_ignored _ .reserved v rfl (by decide)]

theorem step_write_ignored (hf : s.fetch = .host) (hguard : r.guarded = false) (hctrl : r ≠ .ctrl)
    (hq : s.hostQ = HostOp.wr s.params r v :: rest) : step s = .next { s.tick with hostQ := rest } := by
  rw [step_wr s r v rest hf hq, State.writeReg_ignored _ r v hguard hctrl]

theorem step_write_ibuf {a : Nat} (hf : s.fetch = .host) (ha : a < s.params.inCap)
    (hq : s.hostQ = .write .ibuf (s.params.ibufBase + a) 1 v :: rest) :
    step s = .next (State.writeIbuf { s.tick with hostQ := rest } a (v.setWidth 8)) :=
  step_host_write s .ibuf a 1 v rest hf hq ha rfl

theorem step_write_obuf {k : Nat} (hf : s.fetch = .host) (hk : k < s.params.outCap)
    (hq : s.hostQ = .write .obuf (s.params.obufBase + k) 4 v :: rest) :
    step s = .next (State.writeObuf { s.tick with hostQ := rest } k v) :=
  step_host_write s .obuf k 4 v rest hf hq hk rfl

theorem step_write_ctrl_ie (hf : s.fetch = .host) (hq : s.hostQ = HostOp.wr s.params .ctrl v :: rest)
    (hrst : v.getLsbD 1 = false) : step s = .next { s.tick with hostQ := rest, ie := v.getLsbD 0 } := by
  rw [step_wr s .ctrl v rest hf hq, State.writeReg_ctrl, State.writeCtrl, hrst]
  rfl

end Writes

/-- A write set depends on COUNT and BS alone (R77). -/
theorem State.writeSet_congr {s t : State} (hcount : t.count = s.count) (hparams : t.params = s.params) (i : Instr) :
    t.writeSet i = s.writeSet i := by simp only [State.writeSet, hcount, hparams]

/-- The write set of the command in flight outlasts the host's step. -/
theorem State.runningWriteSet_turn (s : State) (rest : List HostOp) :
    State.runningWriteSet { s.tick with hostQ := rest } = s.runningWriteSet := by
  cases hengine : s.engine with
  | idle => simp only [s.tick_idle hengine, State.runningWriteSet, hengine]
  | busy w left run =>
    simp only [s.tick_busy w left run hengine, State.runningWriteSet, hengine]
    exact State.writeSet_congr rfl rfl _

/-- Settles O11. -/
theorem ctrlWriteResetsOrSetsIe : Obligations.CtrlWriteResetsOrSetsIe := by
  intro s v rest hf hq
  refine ⟨fun hrst => ?_, step_write_ctrl_ie hf hq⟩
  have hstep : step s = .next (State.softReset { s.tick with hostQ := rest }) := by
    rw [step_wr s .ctrl v rest hf hq, State.writeReg_ctrl, State.writeCtrl, hrst]
    rfl
  have hreset : (State.softReset { s.tick with hostQ := rest }).IsReset := rfl
  have hconfig : (State.softReset { s.tick with hostQ := rest }).configWord = s.configWord :=
    State.configWord_congr s.tick_params
  refine ⟨_, hstep, rfl, hconfig, fun r hr => hreset.regValue hr, hreset.busy, hreset.irq, s.tick_ibuf, fun k hk => ?_⟩
  have hobuf : s.tick.obuf = s.obuf := s.tick_obuf
  rw [← hobuf]
  refine State.softReset_obuf_read ?_
  rw [State.runningWriteSet_turn]
  exact s.tick_outIdx.symm ▸ hk

/-- BW keeps bits 5:0 of the word written (R48). -/
theorem setWidth_extractLsb'_six (v : Word) : (v.extractLsb' 0 6).setWidth 32 = v &&& 0x3F#32 := by
  refine BitVec.eq_of_toNat_eq ?_
  have hlt : v.toNat % 2 ^ 6 < 2 ^ 32 := by omega
  calc ((v.extractLsb' 0 6).setWidth 32).toNat = v.toNat % 2 ^ 6 := by
        rw [BitVec.toNat_setWidth, BitVec.extractLsb'_toNat, Nat.shiftRight_zero, Nat.mod_eq_of_lt hlt]
    _ = v.toNat &&& (2 ^ 6 - 1) := (Nat.and_two_pow_sub_one_eq_mod _ 6).symm
    _ = (v &&& 0x3F#32).toNat := (BitVec.toNat_and v 0x3F#32).symm

/-- Settles O12. -/
theorem hostWritesReadBack : Obligations.HostWritesReadBack := by
  refine ⟨rfl, fun s v rest hidle => ?_⟩
  have hf := s.fetch_idle hidle
  have htick := s.tick_idle hidle
  have hbusy : State.busy { s with hostQ := rest } = false := State.busy_of_engine_idle hidle
  refine ⟨?_, ?_, ?_, ?_, ?_⟩
  · intro p hp hq
    have hstep := step_wr s p.1 v rest hf hq
    rw [htick, State.writeReg_of_idle hbusy] at hstep
    rw [hstep]
    simp only [List.mem_cons, List.not_mem_nil, or_false] at hp
    obtain rfl | rfl | rfl | rfl | rfl | rfl := hp
    · exact ⟨rfl, rfl⟩
    · exact ⟨rfl, rfl⟩
    · exact ⟨rfl, rfl⟩
    · exact ⟨rfl, rfl⟩
    · exact ⟨rfl, rfl⟩
    · have hlow : v.setWidth 6 = v.extractLsb' 0 6 := BitVec.setWidth_eq_extractLsb' (by decide)
      refine ⟨?_, ?_⟩
      · simp only [State.writeRegIdle, hlow]
      · exact setWidth_extractLsb'_six v
  · intro r hr hq
    rw [step_write_ignored hf ?guard ?ctrl hq, htick]
    case guard =>
      simp only [List.mem_cons, List.not_mem_nil, or_false] at hr
      obtain rfl | rfl | rfl | rfl | rfl := hr <;> rfl
    case ctrl =>
      rintro rfl
      exact absurd hr (by decide)
  · intro off hlo hhi halign hq
    rw [step_write_reserved hf hlo hhi halign hq, htick]
  · intro a ha hq
    have hstep := step_write_ibuf hf ha hq
    rw [htick, State.writeIbuf_of_idle hbusy] at hstep
    refine ⟨_, hstep, ?_, fun c hc => Memory.read_write_other _ _ _ _ hc, rfl⟩
    exact (Memory.read_write_same _ _ _).trans (congrArg some (BitVec.setWidth_eq_extractLsb' (by decide)))
  · intro k hk hq
    have hstep := step_write_obuf hf hk hq
    rw [htick, State.writeObuf_of_idle hbusy] at hstep
    exact ⟨_, hstep, Memory.read_write_same _ _ _, fun c hc => Memory.read_write_other _ _ _ _ hc, rfl⟩

/-! ### STATUS -/

/-- Above the four flags stand 0, ERRCODE and 0 (R37). -/
theorem State.statusWord_extractLsb' (s : State) (start len : Nat) (h : 4 ≤ start) :
    s.statusWord.extractLsb' start len = (0#20 ++ s.errCode ++ 0#4).extractLsb' (start - 4) len := by
  unfold State.statusWord
  rw [BitVec.extractLsb'_append_eq_of_le (by omega), BitVec.extractLsb'_append_eq_of_le (by omega),
    BitVec.extractLsb'_append_eq_of_le (by omega), BitVec.extractLsb'_append_eq_of_le (by omega), Nat.sub_sub,
    Nat.sub_sub, Nat.sub_sub]

/-- The four flags of STATUS (R38–R41). -/
theorem State.statusWord_flags (s : State) : s.statusWord.getLsbD 0 = s.busy ∧ s.statusWord.getLsbD 1 = s.done ∧
    s.statusWord.getLsbD 2 = s.err ∧ s.statusWord.getLsbD 3 = s.ovr := by
  simp only [State.statusWord, BitVec.getLsbD_append]
  simp

/-- ERRCODE and the reserved fields of STATUS (R37, R42). -/
theorem State.statusWord_fields (s : State) : s.statusWord.extractLsb' 4 4 = 0 ∧
    s.statusWord.extractLsb' 8 4 = s.errCode ∧ s.statusWord.extractLsb' 12 20 = 0 := by
  refine ⟨?_, ?_, ?_⟩
  · exact (s.statusWord_extractLsb' 4 4 le_rfl).trans BitVec.extractLsb'_append_eq_right
  · exact (s.statusWord_extractLsb' 8 4 (by decide)).trans (extractLsb'_append_field _ _ _)
  · rw [s.statusWord_extractLsb' 12 20 (by decide), BitVec.extractLsb'_append_eq_of_le (by decide)]
    exact BitVec.extractLsb'_append_eq_left

/-- Settles O13: the fields by the word's layout, the write by W1C (R39–R42). -/
theorem statusRegister : Obligations.StatusRegister := by
  intro s
  obtain ⟨hbusy, hdone, herr, hovr⟩ := s.statusWord_flags
  obtain ⟨hlow, hcode, hhigh⟩ := s.statusWord_fields
  refine ⟨⟨hbusy, hdone, herr, hovr, hlow, hcode, hhigh⟩, fun v rest hidle hq => ?_⟩
  have hw1c (bit old : Bool) : (old && !bit) = if bit then false else old := by
    cases bit with
    | true => exact Bool.and_false _
    | false => exact Bool.and_true _
  have hphase : State.busy { s with hostQ := rest } = false := State.busy_of_engine_idle hidle
  rw [step_wr s .status v rest (s.fetch_idle hidle) hq, s.tick_idle hidle, State.writeReg_status_of_idle v hphase,
    State.clearStatus]
  simp only [hw1c]

/-- Settles O15. -/
theorem busyWritesAreLostAndSetOvr : Obligations.BusyWritesAreLostAndSetOvr := by
  refine ⟨State.accept_ovr, fun s w left run v rest hw => ?_⟩
  have hf := s.fetch_waiting w left run hw
  have htick : s.tick = { s with engine := .busy w left run } := s.tick_busy w (left + 1) run hw
  refine ⟨fun r hr hq => ?_, fun a ha hq => ?_, fun k hk hq => ?_, fun hq hrst => ?_, fun r hr hq => ?_,
    fun off hlo hhi halign hq => ?_⟩
  · have hguard : r.guarded = true := by
      simp only [List.mem_cons, List.not_mem_nil, or_false] at hr
      obtain rfl | rfl | rfl | rfl | rfl | rfl | rfl | rfl := hr <;> rfl
    rw [step_wr s r v rest hf hq, htick, State.writeReg_of_busy rfl hguard]
    rfl
  · rw [step_write_ibuf hf ha hq, htick, State.writeIbuf_of_busy rfl]
    rfl
  · rw [step_write_obuf hf hk hq, htick, State.writeObuf_of_busy rfl]
    rfl
  · rw [step_write_ctrl_ie hf hq hrst, htick]
  · rw [step_write_ignored hf ?_ ?_ hq, htick]
    · simp only [List.mem_cons, List.not_mem_nil, or_false] at hr
      obtain rfl | rfl | rfl | rfl | rfl := hr <;> rfl
    · rintro rfl
      exact absurd hr (by decide)
  · rw [step_write_reserved hf hlo hhi halign hq, htick]

/-- Settles O16. -/
theorem commandWriteIsAccepted : Obligations.CommandWriteIsAccepted := by
  intro s v rest hidle hq
  have hbusy : State.busy { s with hostQ := rest } = false := State.busy_of_engine_idle hidle
  have hstep : step s = .next (State.accept { s with hostQ := rest } v) := by
    rw [step_wr s .cmd v rest (s.fetch_idle hidle) hq, s.tick_idle hidle, State.writeReg_of_idle hbusy]
    rfl
  refine ⟨Config.latency s.draws, if Config.itemwise s.draws then s.startRun v else none, ?_, hstep⟩
  split_ifs
  · exact .inr rfl
  · exact .inl rfl

/-! ### Reads -/

/-- A byte read is zero-extended. -/
theorem byteWord_eq_append (x : Byte) : byteWord x = 0#24 ++ x := BitVec.setWidth_eq_append (by decide)

section Reads

variable {s : State} {r : Reg} {rest : List HostOp}

/-- What a host's turn leaves, but for the engine's count and its list. -/
theorem State.regValue_turn (s : State) (rest : List HostOp) (r : Reg) :
    State.regValue { s.tick with hostQ := rest } r = s.regValue r := by
  have hstatus : State.statusWord { s.tick with hostQ := rest } = s.statusWord := by
    rw [State.statusWord, s.busy_tick rest, s.tick_errCode, s.tick_ovr, s.tick_err, s.tick_done]
    rfl
  cases r with
  | config => exact State.configWord_congr s.tick_params
  | status => exact hstatus
  | ctrl => exact congrArg (fun ie => 0#31 ++ BitVec.ofBool ie) s.tick_ie
  | bw => exact congrArg (·.setWidth 32) s.tick_bw
  | cur => exact s.tick_cur
  | inLen => exact s.tick_inLen
  | count => exact s.tick_count
  | outIdx => exact s.tick_outIdx
  | prev => exact s.tick_prev
  | resultLo => exact s.tick_resultLo
  | resultHi => exact s.tick_resultHi
  | errOff => exact s.tick_errOff
  | consumed => exact s.tick_consumed
  | cmd | reserved => rfl

/-- A register read answers the register's value, or a free one where it is not stable (R63). -/
theorem step_read_reg (hf : s.fetch = .host) (hq : s.hostQ = HostOp.rd s.params r :: rest) :
    step s = .next (if s.busy && r.unstable then State.answerFree { s.tick with hostQ := rest }
      else State.answer { s.tick with hostQ := rest } (s.regValue r)) := by
  rw [step_rd s r rest hf hq, State.readReg, s.busy_tick, State.regValue_turn]

theorem State.readIbuf_of_some {a : Nat} {x : Byte} (h : s.ibuf.read a = some x) :
    s.readIbuf a = s.answer (x.setWidth 32) := by
  rw [State.readIbuf, h]

theorem State.readIbuf_of_none {a : Nat} (h : s.ibuf.read a = none) : s.readIbuf a =
    { s with readData := some ((Config.freeByte s.draws).setWidth 32), draws := s.draws + 1 } := by
  rw [State.readIbuf, h]

theorem State.answerFree_turn (s : State) (rest : List HostOp) : State.answerFree { s.tick with hostQ := rest } =
    { s.tick with hostQ := rest, readData := some (Config.freeWord s.draws), draws := s.draws + 1 } := by
  simp only [State.answerFree, s.tick_draws]

end Reads

/-- Settles O17: each read is `State.readReg`, `readIbuf` or `readObuf` after the host's step. -/
theorem hostReadsOnlyAnswer : Obligations.HostReadsOnlyAnswer := by
  rintro s answered drawn rest hf rfl rfl
  refine ⟨fun p hp hq => ?stable, fun p hp hq => ?unstable, fun off hlo hhi halign hq => ?reserved,
    fun a ha hq => ?ibuf, fun k hk hq => ?obuf⟩
  case stable =>
    have hvalue : p.1.unstable = false ∧ s.regValue p.1 = p.2 := by
      simp only [List.mem_cons, List.not_mem_nil, or_false] at hp
      obtain rfl | rfl | rfl | rfl | rfl | rfl | rfl := hp
      · exact ⟨rfl, rfl⟩
      · exact ⟨rfl, rfl⟩
      · exact ⟨rfl, rfl⟩
      · exact ⟨rfl, rfl⟩
      · exact ⟨rfl, rfl⟩
      · exact ⟨rfl, rfl⟩
      · exact ⟨rfl, BitVec.setWidth_eq_append (by decide)⟩
    obtain ⟨hstable, hvalue⟩ := hvalue
    rw [step_read_reg hf hq, hstable, Bool.and_false, hvalue]
    rfl
  case unstable =>
    have hvalue : p.1.unstable = true ∧ s.regValue p.1 = p.2 := by
      simp only [List.mem_cons, List.not_mem_nil, or_false] at hp
      obtain rfl | rfl | rfl | rfl | rfl | rfl | rfl := hp <;> exact ⟨rfl, rfl⟩
    obtain ⟨hunstable, hvalue⟩ := hvalue
    rw [step_read_reg hf hq, hunstable, Bool.and_true, hvalue, State.answerFree_turn]
    rfl
  case reserved =>
    rw [step_host_read s .reg off 4 rest hf hq hhi (regAccess_allowed _ _ halign), State.hostRead,
      regAt_reserved off hlo, State.readReg, Reg.unstable, Bool.and_false]
    rfl
  case ibuf =>
    have hstep : step s = .next (State.readIbuf { s.tick with hostQ := rest } a) :=
      step_host_read s .ibuf a 1 rest hf hq ha rfl
    have hread : (State.ibuf { s.tick with hostQ := rest }).read a = s.ibuf.read a := congrArg (·.read a) s.tick_ibuf
    refine ⟨fun x hx => ?_, fun hx => ?_⟩
    · rw [hstep, State.readIbuf_of_some (hread.trans hx), ← byteWord_eq_append]
      rfl
    · rw [hstep, State.readIbuf_of_none (hread.trans hx), ← byteWord_eq_append]
      simp only [s.tick_draws]
      rfl
  case obuf =>
    have hstep : step s = .next (State.readObuf { s.tick with hostQ := rest } k) :=
      step_host_read s .obuf k 4 rest hf hq hk rfl
    have hread : State.obuf { s.tick with hostQ := rest } = s.obuf := s.tick_obuf
    rw [State.readObuf, s.busy_tick, hread, State.answerFree_turn] at hstep
    refine ⟨fun hfree => ?_, fun x hidle hx => ?_⟩
    · rw [hstep]
      obtain hbusy | hx := hfree
      · rw [if_pos hbusy]
      · rw [hx]
        exact congrArg _ (ite_self _)
    · rw [hstep, hidle, hx]
      rfl

/-! ### The instruction a step runs -/

theorem decode_byteWord {f : Format} (hf : f ≠ .cmd) (x : Byte) : decode f (byteWord x) = decodeByte f x := by
  rw [decode, setWidth_byteWord]
  exact hf

/-- A command in flight awaits a byte (R216). -/
theorem Run.format_ne_cmd (bs : Nat) (r : Run) : r.format bs ≠ .cmd := by
  unfold Run.format
  split <;> nofun

/-- Settles O19. -/
theorem stepRunsTheDecodedInstruction : Obligations.StepRunsTheDecodedInstruction := by
  intro s w
  refine ⟨fun hw => ?_, fun r x hw hcur hx => ?_, fun r hw hend => ?_, fun hidle => ?_, fun left run hw => ?_⟩
  · rw [step, s.fetch_cmd w hw]
    rfl
  · rw [step, s.fetch_item w r x hw hcur hx]
    exact congrArg (exec · s) (decode_byteWord (r.format_ne_cmd _) x).symm
  · rw [step, s.fetch_truncated w r hw hend]
  · rw [step, s.fetch_idle hidle]
  · rw [step, s.fetch_waiting w left run hw]

end Sys2Proof.Machine

/-! A command that proceeds item by item ends as it does in one step (R52, R83). -/

namespace Sys2Proof.Machine

/-! ### An item does not see the command-local state kept beside the start state -/

section Reads

variable {s t : State} {φ : Progress → Progress}

theorem State.sameStream.basevalAt (h : s.sameStream t) (x : Byte) (c : Nat) :
    s.ReadsStream id (s.basevalAt x c) (t.basevalAt x c) :=
  .ite (fun _ => .ok _) fun _ => .ite (fun _ => h.basevalForm2 c x) fun _ => .ite (fun _ => h.basevalForm3 c x) fun _ =>
    .raise _ _

theorem State.sameStream.vbAt (h : s.sameStream t) (x : Byte) (c : Nat) :
    s.ReadsStream id (s.vbAt x c) (t.vbAt x c) :=
  .ite (fun _ => .ok _) fun _ => .ite (fun _ => h.vbForm2 c x) fun _ => .ite (fun _ => h.vbForm3 c x) fun _ =>
    .ite (fun _ => h.vbForm4 c) fun _ => .ite (fun _ => h.vbForm5 c) fun _ => .raise _ _

/-- `φ` takes what items answer on `s` to what they answer on `t`. -/
structure State.CarriesItems (s t : State) (φ : Progress → Progress) : Prop where
  more : ∀ r, φ (.more r) = .more r
  scalar : ∀ v len, φ (.finished (s.commitScalar v len)) = .finished (t.commitScalar v len)
  ids : ∀ out e, φ (.finished (s.commitIds out e)) = .finished (t.commitIds out e)

theorem State.CarriesItems.ok {p q : Progress} (h : φ p = q) : s.ReadsStream φ (.ok p) (.ok q) := h ▸ .ok p

theorem State.CarriesItems.nextBlock (hφ : s.CarriesItems t φ) (r : Run) : φ (s.nextBlock r) = t.nextBlock r := by
  unfold State.nextBlock
  split_ifs
  · exact hφ.ids _ _
  · exact hφ.more _

theorem State.CarriesItems.endBlock (hφ : s.CarriesItems t φ) (h : s.sameStream t) (r : Run) (ge : List Word × Nat) :
    φ (s.endBlock r ge) = t.endBlock r ge := by
  rw [State.endBlock, State.endBlock, h.params]
  exact hφ.nextBlock _

theorem State.sameStream.nextHeader (h : s.sameStream t) (hφ : s.CarriesItems t φ) (r : Run) (ty : BlockType)
    (b : Nat) : s.ReadsStream φ (s.nextHeader r ty b) (t.nextHeader r ty b) := by
  have hend (ge : List Word × Nat) : s.ReadsStream φ (.ok (s.endBlock r ge)) (.ok (t.endBlock r ge)) :=
    State.CarriesItems.ok (hφ.endBlock h r ge)
  cases ty with
  | constant =>
    simp only [State.nextHeader, h.params]
    exact (h.constantGaps _ _ b).bind fun ge _ => hend ge
  | for_ =>
    simp only [State.nextHeader, h.params]
    exact (h.forGaps _ _ b _).bind fun ge _ => hend ge
  | pforBitmap =>
    simp only [State.nextHeader, h.params]
    exact State.CarriesItems.ok (hφ.more _)
  | pforVb =>
    simp only [State.nextHeader, h.params]
    exact h.need_bind fun _ => h.byte_bind (by omega) fun n => (h.pforVbBase _ _ b _ _).bind fun p _ =>
      .ite (fun _ => (h.excEmpty _).bind fun _ _ => (h.pforVbPatch _ b _ _ _).bind fun ge _ => hend ge) fun _ =>
        State.CarriesItems.ok (hφ.more _)

theorem State.sameStream.nextItem (h : s.sameStream t) (hφ : s.CarriesItems t φ) (r : Run) :
    s.ReadsStream φ (s.nextItem r) (t.nextItem r) := by
  have hend (ge : List Word × Nat) : s.ReadsStream φ (.ok (s.endBlock r ge)) (.ok (t.endBlock r ge)) :=
    State.CarriesItems.ok (hφ.endBlock h r ge)
  have hbyte : s.ReadsStream id (s.streamByte r) (t.streamByte r) := h.need_bind fun _ => h.byteAt (by omega)
  refine hbyte.bind fun x _ => ?_
  unfold State.itemAt
  cases r.expect with
  | scalarBaseval => exact (h.basevalAt x _).bind fun _ _ => State.CarriesItems.ok (hφ.scalar _ _)
  | scalarVb => exact (h.vbAt x _).bind fun _ _ => State.CarriesItems.ok (hφ.scalar _ _)
  | seed => exact (h.basevalAt x _).bind fun _ _ => State.CarriesItems.ok (hφ.nextBlock _)
  | header => exact .ite (fun _ => .raise _ _) fun _ => h.nextHeader hφ r _ _
  | bexc hdr num b il =>
    exact .ite (fun _ => .raise _ _) fun _ => (h.pforBitmapBody _ _ b _ il).bind fun ge _ => hend ge
  | excArea num b n g =>
    exact .ite (fun _ => (h.escValues _ n).bind fun _ _ => (h.pforVbPatch _ b g _ _).bind fun ge _ => hend ge) fun _ =>
      State.CarriesItems.ok (hφ.more _)
  | excVb num b n g xs =>
    exact (h.vbAt x _).bind fun _ _ => .ite (fun _ => (h.pforVbPatch _ b g _ _).bind fun ge _ => hend ge) fun _ =>
      State.CarriesItems.ok (hφ.more _)

end Reads

/-- The command `w` of start state `s` in flight, at `r`. -/
def State.flight (s : State) (w : Word) (r : Run) : State := { s with engine := .busy w 0 (some r) }

/-- An item's progress, on the state in flight. -/
def Progress.inFlight (w : Word) (r : Run) : Progress → Progress
  | .more r' => .more r'
  | .finished t => .finished (t.flight w r)

theorem State.nextItem_flight (s : State) (w : Word) (r : Run) :
    (s.flight w r).nextItem r = (s.nextItem r).map (Progress.inFlight w r) :=
  (State.sameStream.nextItem (s := s) (t := s.flight w r) ⟨rfl, rfl, fun _ _ => rfl⟩
    ⟨fun _ => rfl, fun _ _ => rfl, fun _ _ => rfl⟩ r).same

/-! ### Where a command in flight ends -/

/-- The command `w` in flight at `r` comes, after some number of steps, to the outcome of pseudocode that ends in
`x`. -/
def State.EndsIn (s : State) (w : Word) (r : Run) (x : Res State) : Prop :=
  ∃ k, Host.Core.run Sys2Proof.core k (s.flight w r) = s.finish (s.writeSet (decodeCmd w)) x

/-- After an item that answers `p`, the command comes to that outcome. -/
def State.Leads (s : State) (w : Word) : Res Progress → Res State → Prop
  | .ok (.more r), x => s.EndsIn w r x
  | .ok (.finished t), x => x = .ok t
  | .error e, x => x = .error e

section Leads

variable {s : State} {w : Word}

theorem State.step_flight (r : Run) : step (s.flight w r) =
    match s.nextItem r with
    | .ok (.more r') => .next (s.flight w r')
    | .ok (.finished t) => .next t.complete
    | .error (.engine code off) => .next (s.faultEntry code off (s.writeSet (decodeCmd w)))
    | .error (.model f) => .fault f := by
  rw [step_item (s := s.flight w r) rfl, State.runItem_busy _ _ w 0 r rfl, State.nextItem_flight]
  cases s.nextItem r with
  | ok p => cases p <;> rfl
  | error e => cases e <;> rfl

theorem core_run_succ_of_next {M : Host.Core} {k : Nat} {x y : M.State} (h : M.step x = .next y) :
    M.run (k + 1) x = M.run k y := by rw [Host.Core.run, h]

theorem core_run_one_of_fault {M : Host.Core} {x : M.State} {f : M.Fault} (h : M.step x = .fault f) :
    M.run 1 x = .fault f := by rw [Host.Core.run, h]

theorem State.EndsIn.of_item {r : Run} {x : Res State} (h : s.Leads w (s.nextItem r) x) : s.EndsIn w r x := by
  have hstep := State.step_flight (s := s) (w := w) r
  cases hitem : s.nextItem r with
  | ok p =>
    rw [hitem] at h hstep
    cases p with
    | more r' =>
      obtain ⟨k, hk⟩ := h
      exact ⟨k + 1, (core_run_succ_of_next (M := Sys2Proof.core) hstep).trans hk⟩
    | finished t =>
      obtain rfl : x = .ok t := h
      exact ⟨1, core_run_succ_of_next (M := Sys2Proof.core) (k := 0) hstep⟩
  | error e =>
    rw [hitem] at h hstep
    obtain rfl : x = .error e := h
    cases e with
    | engine code off => exact ⟨1, core_run_succ_of_next (M := Sys2Proof.core) (k := 0) hstep⟩
    | model f => exact ⟨1, core_run_one_of_fault (M := Sys2Proof.core) hstep⟩

/-! ### Sequencing -/

variable {α : Type}

theorem State.Leads.bind {d : Res α} {f : α → Res Progress} {g : α → Res State} (h : ∀ a, s.Leads w (f a) (g a)) :
    s.Leads w (d >>= f) (d >>= g) := by
  cases d with
  | ok a => exact h a
  | error e => rfl

theorem State.Leads.ite {c : Prop} [Decidable c] {p p' : Res Progress} {x x' : Res State} (h : c → s.Leads w p x)
    (h' : ¬ c → s.Leads w p' x') : s.Leads w (if c then p else p') (if c then x else x') := by
  split
  · exact h ‹_›
  · exact h' ‹_›

theorem State.Leads.raise (code : FaultCode) (off : Nat) : s.Leads w (raise code off) (Machine.raise code off) := rfl

/-- A choice made before the rest of the pseudocode. -/
theorem ite_bind {β : Type} {c : Prop} [Decidable c] (x y : Res α) (f : α → Res β) :
    (if c then x else y) >>= f = if c then x >>= f else y >>= f := by split <;> rfl

/-- The first byte of an item. -/
theorem State.EndsIn.of_byte {r : Run} {g : Byte → Res State} (h : ∀ x, s.Leads w (s.itemAt r x) (g x)) :
    s.EndsIn w r (s.need r.cur 1 >>= fun _ => s.byteAt r.cur >>= g) := by
  refine .of_item ?_
  rw [State.nextItem, State.streamByte, bind_assoc]
  exact .bind fun _ => .bind h

/-! ### A block (R171–R180) -/

variable {num b n : Nat} {g : List Word} {K : List Word × Nat → Res State}

theorem State.decodeBaseval_eq_basevalAt (c : Nat) :
    s.decodeBaseval c = s.need c 1 >>= fun _ => s.byteAt c >>= fun x => s.basevalAt x c := rfl

theorem State.decodeVb_eq_vbAt (c : Nat) :
    s.decodeVb c = s.need c 1 >>= fun _ => s.byteAt c >>= fun x => s.vbAt x c := rfl

/-- The vb exception values still to come, then the index bytes (R178, R180). -/
theorem State.EndsIn.excVb {r : Run} {xs : List Word} {m : Nat} (hexp : r.expect = .excVb num b n g xs)
    (hn : xs.length + (m + 1) = n) (hK : ∀ ge, s.Leads w (.ok (s.endBlock r ge)) (K ge)) :
    s.EndsIn w r (s.vbValues r.cur (m + 1) >>= fun p => s.pforVbPatch num b g (xs ++ p.1) p.2 >>= K) := by
  induction m generalizing r xs with
  | zero =>
    simp only [State.vbValues, State.decodeVb_eq_vbAt, bind_assoc, Res.bind_ok]
    refine .of_byte fun x => ?_
    simp only [State.itemAt, hexp, if_pos hn]
    exact .bind fun _ => .bind hK
  | succ m ih =>
    rw [State.vbValues]
    simp only [State.decodeVb_eq_vbAt, bind_assoc, Res.bind_ok]
    refine .of_byte fun x => ?_
    simp only [State.itemAt, hexp]
    refine .bind fun q => ?_
    rw [if_neg (by omega)]
    have hnext := ih (r := { r with cur := r.cur + q.2, expect := .excVb num b n g (xs ++ [q.1]) })
      (xs := xs ++ [q.1]) rfl (by rw [List.length_append, List.length_singleton]; omega) hK
    simp only [List.append_assoc, List.singleton_append] at hnext
    exact hnext

/-- The exception area, then the index bytes (R178, R180). -/
theorem State.EndsIn.excArea {r : Run} (hexp : r.expect = .excArea num b n g) (hn : n ≠ 0)
    (hK : ∀ ge, s.Leads w (.ok (s.endBlock r ge)) (K ge)) :
    s.EndsIn w r (s.excArea r.cur n >>= fun p => s.pforVbPatch num b g p.1 p.2 >>= K) := by
  rw [State.excArea, if_neg hn]
  simp only [bind_assoc]
  refine .of_byte fun x => ?_
  rw [ite_bind]
  simp only [State.itemAt, hexp]
  refine .ite (fun _ => .bind fun _ => .bind hK) fun _ => ?_
  obtain ⟨m, rfl⟩ := Nat.exists_eq_succ_of_ne_zero hn
  exact State.EndsIn.excVb (r := { r with expect := .excVb num b (m + 1) g [] }) rfl (Nat.zero_add _) hK

/-- The BEXC byte and the rest of its block (R176, R177). -/
theorem State.EndsIn.bexc {r : Run} {hdr : Nat} {il : Bool} (hexp : r.expect = .bexc hdr num b il)
    (hcur : r.cur = hdr + 1) (hK : ∀ ge, s.Leads w (.ok (s.endBlock r ge)) (K ge)) :
    s.EndsIn w r (s.pforBitmapGaps hdr num b il >>= K) := by
  simp only [State.pforBitmapGaps, bind_assoc, ← hcur]
  refine .of_byte fun x => ?_
  rw [ite_bind]
  simp only [State.itemAt, hexp]
  exact .ite (fun _ => rfl) fun _ => .bind hK

/-- A legal header and the rest of its block. -/
theorem State.Leads.nextHeader {r : Run} {ty : BlockType} (hK : ∀ ge, s.Leads w (.ok (s.endBlock r ge)) (K ge)) :
    s.Leads w (s.nextHeader r ty b)
      (s.blockGaps ty r.cur (r.num s.params.bs) b (r.useIL s.params.bs) >>= K) := by
  cases ty with
  | constant => exact .bind hK
  | for_ => exact .bind hK
  | pforBitmap => exact State.EndsIn.bexc (r := { r with cur := r.cur + 1, expect := .bexc _ _ _ _ }) rfl rfl hK
  | pforVb =>
    simp only [State.nextHeader, State.blockGaps, State.pforVbGaps, bind_assoc]
    refine .bind fun _ => .bind fun x => .bind fun p => ?_
    split_ifs with hzero
    · rw [State.excArea, if_pos hzero]
      simp only [bind_assoc, Res.bind_ok]
      exact .bind fun _ => .bind hK
    · exact State.EndsIn.excArea (r := { r with cur := p.2, expect := .excArea _ _ _ _ }) rfl hzero hK

/-- A whole block, and what follows its identifiers. -/
theorem State.EndsIn.block {r : Run} (hexp : r.expect = .header)
    (hK : ∀ ge : List Word × Nat, s.Leads w (.ok (s.endBlock r ge)) (K (scan r.prev ge.1, ge.2))) :
    s.EndsIn w r (s.decodeBlock r.cur (r.num s.params.bs) r.il r.prev >>= K) := by
  simp only [State.decodeBlock, bind_assoc]
  refine .of_byte fun x => ?_
  rw [ite_bind]
  simp only [State.itemAt, hexp]
  refine .ite (fun _ => rfl) fun _ => ?_
  simp only [bind_assoc, Res.bind_ok]
  have hgaps := State.Leads.nextHeader (ty := decodeType x) (b := (x.extractLsb' 0 6).toNat) hK
  by_cases hty : decodeType x = .constant
  · rw [hty] at hgaps ⊢
    exact hgaps
  · rw [decide_eq_true hty, Bool.and_true]
    exact hgaps

/-! ### A sequence (R210) -/

/-- The blocks still to come, then the staged results. -/
theorem State.Leads.nextBlock {r : Run} {k : Nat} (hk : r.todo ≤ k * s.params.bs) :
    s.Leads w (.ok (s.nextBlock r))
      (s.seqBlocks r.il k r.todo r.cur r.prev >>= fun p => .ok (s.commitIds (r.out ++ p.1) p.2)) := by
  induction k generalizing r with
  | zero =>
    have hzero : r.todo = 0 := by omega
    rw [State.nextBlock, if_pos hzero]
    simp only [State.seqBlocks, Res.bind_ok, List.append_nil]
    rfl
  | succ k ih =>
    rw [State.nextBlock, State.seqBlocks]
    by_cases hzero : r.todo = 0
    · rw [if_pos hzero, if_pos hzero]
      simp only [Res.bind_ok, List.append_nil]
      rfl
    · rw [if_neg hzero, if_neg hzero]
      simp only [bind_assoc, Res.bind_ok]
      refine State.EndsIn.block (r := { r with expect := .header }) rfl fun ge => ?_
      have hnum : r.num s.params.bs = min r.todo s.params.bs := rfl
      rw [Nat.succ_mul] at hk
      have hrest := ih (r := { r with
        cur := ge.2
        prev := (scan r.prev ge.1).getLastD r.prev
        out := r.out ++ scan r.prev ge.1
        todo := r.todo - r.num s.params.bs }) (by dsimp only; omega)
      simp only [List.append_assoc] at hrest
      exact hrest

end Leads

/-- `ceil_div` blocks hold all positions (R211). -/
theorem le_ceilDiv_mul (m : Nat) {n : Nat} (hn : 1 ≤ n) : m ≤ ceilDiv m n * n := by
  have hmod := Nat.div_add_mod (m + n - 1) n
  have hlt := Nat.mod_lt (m + n - 1) hn
  rw [ceilDiv, Nat.mul_comm]
  omega

/-- The itemwise run from a command's start comes to the outcome of its pseudocode. -/
theorem State.startRun_endsIn {s : State} {w : Word} {r : Run} (h : s.startRun w = some r) :
    ∃ x, exec (decodeCmd w) s = s.finish (s.writeSet (decodeCmd w)) x ∧ s.EndsIn w r x := by
  obtain ⟨il, hcmd, hcheck, rfl⟩ | ⟨il, hcmd, hcheck, rfl⟩ | ⟨il, hcmd, hchecks, rfl⟩ |
    ⟨il, hcmd, hchecks, hcount, rfl⟩ := State.startRun_some h
  · refine ⟨s.baseval, by rw [hcmd]; rfl, ?_⟩
    simp only [State.baseval, hcheck, Res.bind_ok, State.decodeBaseval_eq_basevalAt, bind_assoc]
    exact .of_byte fun x => .bind fun _ => rfl
  · refine ⟨s.vb, by rw [hcmd]; rfl, ?_⟩
    simp only [State.vb, hcheck, Res.bind_ok, State.decodeVb_eq_vbAt, bind_assoc]
    exact .of_byte fun x => .bind fun _ => rfl
  · refine ⟨s.blockCmd il, ?_, ?_⟩
    · rw [hcmd]
      cases il <;> rfl
    · obtain ⟨-, -, hle, -⟩ := State.blockChecks_ok_iff.1 hchecks
      have hnum : Run.num s.params.bs ⟨s.cur.toNat, s.prev, [], s.count.toNat, il, .header⟩ = s.count.toNat :=
        Nat.min_eq_left hle
      have hblock := State.EndsIn.block (s := s) (w := w)
        (r := ⟨s.cur.toNat, s.prev, [], s.count.toNat, il, .header⟩) (K := fun p => .ok (s.commitIds p.1 p.2)) rfl
        fun ge => by
          rw [State.endBlock, State.nextBlock, hnum, if_pos (Nat.sub_self _)]
          rfl
      rw [hnum] at hblock
      rw [State.blockCmd_of_blockChecks_ok hchecks]
      exact hblock
  · refine ⟨s.seqCmd il, ?_, ?_⟩
    · rw [hcmd]
      cases il <;> rfl
    · rw [State.seqCmd_of_seqChecks_ok hchecks, if_neg hcount]
      simp only [State.decodeSeq, State.decodeBaseval_eq_basevalAt, bind_assoc, Res.bind_ok]
      refine .of_byte fun x => .bind fun q => ?_
      exact State.Leads.nextBlock (r := ⟨s.cur.toNat + q.2, q.1, [q.1], s.count.toNat - 1, il, .seed⟩)
        (le_ceilDiv_mul _ (Params.bs_pos s.params))

/-- Settles O60. -/
theorem itemwiseAgreesWithAtomic : Obligations.ItemwiseAgreesWithAtomic := by
  intro s w r _ hrun
  obtain ⟨x, hexec, k, hk⟩ := State.startRun_endsIn hrun
  exact ⟨k, hk.trans hexec.symm⟩

end Sys2Proof.Machine

/-! What every instruction leaves as it was (R31, R76, R227, R228) and which bytes matter to none (R74). -/

namespace Sys2Proof.Machine

/-- The same progress, on another IBUF. -/
def Progress.withIbuf (m : Memory Byte) : Progress → Progress
  | .more r => .more r
  | .finished t => .finished (t.withIbuf m)

/-- Where an item answers, it goes on or stages results of the command. -/
def State.Stages (s : State) : Progress → Prop
  | .more _ => True
  | .finished t => ∃ out, s.Staged t out

/-- `p` is what an item answers on `s`, and `q` what it answers on `s` with IBUF `m`: the same, but for IBUF. -/
structure State.ItemAgrees (s : State) (m : Memory Byte) (p q : Res Progress) : Prop where
  same : q = p.map (Progress.withIbuf m)
  stages : ∀ a, p = .ok a → s.Stages a

/-- `o` is the outcome of an item on `s`, and `o'` its outcome on `s` with IBUF `m`. -/
def State.ItemOutcomes (s : State) (m : Memory Byte) (o o' : Host.Outcome State Fault Refusal) : Prop :=
  ∃ f g, o = s.runItem f ∧ o' = (s.withIbuf m).runItem g ∧ ∀ r, s.ItemAgrees m (f r) (g r)

section Items

variable {s : State} {m : Memory Byte} {α : Type}

/-! ### Sequencing -/

theorem State.ItemAgrees.more (r : Run) : s.ItemAgrees m (.ok (.more r)) (.ok (.more r)) where
  same := rfl
  stages a h := by cases h; exact trivial

theorem State.ItemAgrees.error (e : Stop) : s.ItemAgrees m (.error e) (.error e) where
  same := rfl
  stages a h := by cases h

theorem State.ItemAgrees.scalar (v : Word) (len : Nat) :
    s.ItemAgrees m (.ok (.finished (s.commitScalar v len))) (.ok (.finished ((s.withIbuf m).commitScalar v len))) where
  same := rfl
  stages a h := by cases h; exact ⟨[], s.staged_commitScalar v len⟩

theorem State.ItemAgrees.nextBlock (r : Run) :
    s.ItemAgrees m (.ok (s.nextBlock r)) (.ok ((s.withIbuf m).nextBlock r)) := by
  unfold State.nextBlock
  split_ifs
  · exact ⟨rfl, fun a h => by cases h; exact ⟨r.out, s.staged_commitIds _ _⟩⟩
  · exact .more _

theorem State.ItemAgrees.endBlock (r : Run) (ge : List Word × Nat) :
    s.ItemAgrees m (.ok (s.endBlock r ge)) (.ok ((s.withIbuf m).endBlock r ge)) := .nextBlock _

theorem State.ItemAgrees.bind {x y : Res α} {f g : α → Res Progress} (hx : y = x)
    (h : ∀ a, x = .ok a → s.ItemAgrees m (f a) (g a)) : s.ItemAgrees m (x >>= f) (y >>= g) := by
  subst hx
  cases y with
  | ok a => exact h a rfl
  | error e => exact .error e

theorem State.ItemAgrees.ite {c : Prop} [Decidable c] {p p' q q' : Res Progress} (h : c → s.ItemAgrees m p q)
    (h' : ¬ c → s.ItemAgrees m p' q') : s.ItemAgrees m (if c then p else p') (if c then q else q') := by
  split
  · exact h ‹_›
  · exact h' ‹_›

/-! ### The items -/

theorem State.basevalItem_outcomes {form form' : Nat → Res (Word × Nat)} (hform : ∀ c, form' c = form c) :
    s.ItemOutcomes m (s.basevalItem form) ((s.withIbuf m).basevalItem form') := by
  refine ⟨_, _, rfl, rfl, fun r => ?_⟩
  cases r.expect with
  | scalarBaseval => exact .bind (hform _) fun _ _ => .scalar _ _
  | seed => exact .bind (hform _) fun _ _ => .nextBlock _
  | _ => exact .error _

variable (hm : ∀ a, a < s.inLen.toNat → m.read a = s.ibuf.read a)

include hm

theorem State.vbItem_outcomes {form form' : Nat → Res (Word × Nat)} (hform : ∀ c, form' c = form c) :
    s.ItemOutcomes m (s.vbItem form) ((s.withIbuf m).vbItem form') := by
  have h := State.sameStream_withIbuf hm
  refine ⟨_, _, rfl, rfl, fun r => ?_⟩
  cases r.expect with
  | scalarVb => exact .bind (hform _) fun _ _ => .scalar _ _
  | excVb num b n g xs =>
    exact .bind (hform _) fun _ _ =>
      .ite (fun _ => .bind (h.pforVbPatch _ b g _ _).eq fun ge _ => .endBlock r ge) fun _ => .more _
  | _ => exact .error _

omit hm in
theorem State.headerItem_outcomes {il : Option Bool} {block block' : Run → Res Progress}
    (hblock : ∀ r, s.ItemAgrees m (block r) (block' r)) :
    s.ItemOutcomes m (s.headerItem il block) ((s.withIbuf m).headerItem il block') :=
  ⟨_, _, rfl, rfl, fun r => .ite (fun _ => hblock r) fun _ => .error _⟩

theorem State.forItem_outcomes (il : Bool) (b : Nat) :
    s.ItemOutcomes m (s.forItem il b) ((s.withIbuf m).forItem il b) :=
  State.headerItem_outcomes fun r =>
    .bind ((State.sameStream_withIbuf hm).forGaps _ _ b il).eq fun ge _ => .endBlock r ge

theorem State.constantItem_outcomes (b : Nat) :
    s.ItemOutcomes m (s.constantItem b) ((s.withIbuf m).constantItem b) :=
  State.headerItem_outcomes fun r =>
    .bind ((State.sameStream_withIbuf hm).constantGaps _ _ b).eq fun ge _ => .endBlock r ge

omit hm in
theorem State.pforBitmapItem_outcomes (il : Bool) (b : Nat) :
    s.ItemOutcomes m (s.pforBitmapItem il b) ((s.withIbuf m).pforBitmapItem il b) :=
  State.headerItem_outcomes fun _ => .more _

theorem State.pforVbItem_outcomes (il : Bool) (b : Nat) :
    s.ItemOutcomes m (s.pforVbItem il b) ((s.withIbuf m).pforVbItem il b) := by
  have h := State.sameStream_withIbuf hm
  refine State.headerItem_outcomes fun r => .bind rfl fun _ hneed => ?_
  have hbyte : r.cur + 1 < s.inLen.toNat := by
    have := (s.need_ok _ _ _).1 hneed
    omega
  exact .bind (h.byteAt hbyte).eq fun n _ => .bind (h.pforVbBase _ _ b _ il).eq fun p _ =>
    .ite (fun _ => .bind (h.excEmpty _).eq fun _ _ => .bind (h.pforVbPatch _ b _ _ _).eq fun ge _ => .endBlock r ge)
      fun _ => .more _

theorem State.bexcItem_outcomes (E : Nat) : s.ItemOutcomes m (s.bexcItem E) ((s.withIbuf m).bexcItem E) := by
  refine ⟨_, _, rfl, rfl, fun r => ?_⟩
  cases r.expect with
  | bexc hdr num b il =>
    exact .bind ((State.sameStream_withIbuf hm).pforBitmapBody _ _ b E il).eq fun ge _ => .endBlock r ge
  | _ => exact .error _

theorem execExcEsc_outcomes : s.ItemOutcomes m (execExcEsc s) (execExcEsc (s.withIbuf m)) := by
  have h := State.sameStream_withIbuf hm
  refine ⟨_, _, rfl, rfl, fun r => ?_⟩
  cases r.expect with
  | excArea num b n g =>
    exact .bind (h.escValues _ n).eq fun _ _ => .bind (h.pforVbPatch _ b g _ _).eq fun ge _ => .endBlock r ge
  | _ => exact .error _

/-- Every instruction that is not a CMD word is a stream item. -/
theorem exec_itemOutcomes {i : Instr} (hi : i.format ≠ .cmd) :
    s.ItemOutcomes m (exec i s) (exec i (s.withIbuf m)) := by
  have h := State.sameStream_withIbuf hm
  cases i with
  | for_ | for32 | forIl | forIl32 => exact State.forItem_outcomes hm _ _
  | constant | constant32 => exact State.constantItem_outcomes hm _
  | pforBitmap | pforBitmap32 | pforBitmapIl | pforBitmapIl32 => exact State.pforBitmapItem_outcomes _ _
  | pforVb | pforVb32 | pforVbIl | pforVbIl32 => exact State.pforVbItem_outcomes hm _ _
  | badWidth => exact State.headerItem_outcomes fun _ => .error _
  | bexc | bexc32 => exact State.bexcItem_outcomes hm _
  | badWidthExc =>
    refine ⟨_, _, rfl, rfl, fun r => ?_⟩
    cases r.expect <;> exact .error _
  | baseval1 v =>
    exact State.basevalItem_outcomes (form := fun _ => .ok (basevalForm1 (Instr.baseval1 v).firstByte)) fun _ => rfl
  | basevalRsv => exact State.basevalItem_outcomes (form := raise .basevalRsv) fun _ => rfl
  | baseval2 => exact State.basevalItem_outcomes fun c => (h.basevalForm2 c _).eq
  | baseval3 => exact State.basevalItem_outcomes fun c => (h.basevalForm3 c _).eq
  | vb1 x => exact State.vbItem_outcomes hm (form := fun _ => .ok (vbForm1 x)) fun _ => rfl
  | vbRsv => exact State.vbItem_outcomes hm (form := raise .vbRsv) fun _ => rfl
  | vb2 => exact State.vbItem_outcomes hm fun c => (h.vbForm2 c _).eq
  | vb3 => exact State.vbItem_outcomes hm fun c => (h.vbForm3 c _).eq
  | vb4 => exact State.vbItem_outcomes hm fun c => (h.vbForm4 c).eq
  | vb5 => exact State.vbItem_outcomes hm fun c => (h.vbForm5 c).eq
  | excEsc => exact execExcEsc_outcomes hm
  | excVb =>
    refine ⟨_, _, rfl, rfl, fun r => ?_⟩
    cases r.expect with
    | excArea => exact .more _
    | _ => exact .error _
  | _ => exact absurd rfl hi

end Items

/-- An instruction is a command, ILLEGAL_CMD, or a stream item. -/
theorem instr_command_or_illegal_or_item (i : Instr) :
    i.isCommand = true ∨ i.isIllegalCmd = true ∨ i.format ≠ .cmd := by
  by_cases hf : i.format = .cmd
  · exact (isCommand_or_isIllegalCmd hf).imp_right .inl
  · exact .inr (.inr hf)

/-! ### What an instruction leaves as it was -/

/-- The fields no instruction writes: the parameters, IBUF, IN_LEN, COUNT, BW, IE, OVR, and the model's list and
answer. -/
structure State.SameInputs (s t : State) : Prop where
  ibuf : t.ibuf = s.ibuf
  inLen : t.inLen = s.inLen
  count : t.count = s.count
  bw : t.bw = s.bw
  ie : t.ie = s.ie
  ovr : t.ovr = s.ovr
  params : t.params = s.params
  hostQ : t.hostQ = s.hostQ
  readData : t.readData = s.readData

section Keeps

variable {s t : State}

theorem State.sameInputs_faultEntry (code : FaultCode) (off n : Nat) : s.SameInputs (s.faultEntry code off n) :=
  ⟨rfl, rfl, rfl, rfl, rfl, rfl, rfl, rfl, rfl⟩

theorem State.Staged.sameInputs {out : List Word} (h : s.Staged t out) : s.SameInputs t.complete := by
  rw [h.frame]
  exact ⟨rfl, rfl, rfl, rfl, rfl, rfl, rfl, rfl, rfl⟩

theorem State.runItem_sameInputs {f : Run → Res Progress} (hf : ∀ r p, f r = .ok p → s.Stages p)
    (h : s.runItem f = .next t) : s.SameInputs t := by
  obtain ⟨w, left, r, -, ⟨p, hp, rfl⟩ | ⟨code, off, -, rfl⟩⟩ := (s.runItem_next f t).1 h
  · cases p with
    | more r' => exact ⟨rfl, rfl, rfl, rfl, rfl, rfl, rfl, rfl, rfl⟩
    | finished u =>
      obtain ⟨out, hstaged⟩ := hf r _ hp
      exact hstaged.sameInputs
  · exact State.sameInputs_faultEntry code off _

theorem exec_sameInputs {i : Instr} (h : exec i s = .next t) : s.SameInputs t := by
  obtain hcmd | hill | hitem := instr_command_or_illegal_or_item i
  · obtain ⟨u, out, rfl, hstaged, -, -⟩ | ⟨code, off, rfl⟩ := exec_command_next hcmd h
    · exact hstaged.sameInputs
    · exact State.sameInputs_faultEntry code off _
  · rw [exec_illegal s hill, State.illegalCmd] at h
    cases h
    exact State.sameInputs_faultEntry _ _ _
  · obtain ⟨f, g, hf, -, hagree⟩ := exec_itemOutcomes (s := s) (m := s.ibuf) (fun _ _ => rfl) hitem
    exact State.runItem_sameInputs (fun r => (hagree r).stages) (hf ▸ h)

/-! ### No step changes the parameters (R31) -/

theorem State.writeReg_sameParams (r : Reg) (v : Word) : s.sameParams (s.writeReg r v) := by
  unfold State.writeReg
  split_ifs
  · rfl
  · cases r with
    | ctrl =>
      change (s.writeCtrl v).params = _
      unfold State.writeCtrl
      split_ifs <;> rfl
    | _ => rfl

theorem State.hostWrite_sameParams (sp : Space) (a : Nat) (v : Word) : s.sameParams (s.hostWrite sp a v) := by
  cases sp with
  | reg => exact State.writeReg_sameParams _ v
  | ibuf =>
    change (s.writeIbuf a _).params = _
    unfold State.writeIbuf
    split_ifs <;> rfl
  | obuf =>
    change (s.writeObuf a v).params = _
    unfold State.writeObuf
    split_ifs <;> rfl

theorem State.hostRead_sameParams (sp : Space) (a : Nat) : s.sameParams (s.hostRead sp a) := by
  cases sp with
  | reg =>
    change (s.readReg _).params = _
    unfold State.readReg
    split_ifs <;> rfl
  | ibuf =>
    change (s.readIbuf a).params = _
    unfold State.readIbuf
    split <;> rfl
  | obuf =>
    change (s.readObuf a).params = _
    unfold State.readObuf
    split_ifs
    · rfl
    · split <;> rfl

theorem State.hostMove_sameParams {op : HostOp} (h : s.hostMove op = .next t) : s.sameParams t := by
  have hstatus : s.sameParams (s.readReg .status) := State.hostRead_sameParams .reg 12
  obtain ⟨sp, a, width, -, -, rfl⟩ | ⟨sp, a, width, v, -, -, rfl⟩ | ⟨-, rfl | rfl⟩ | ⟨-, rfl | rfl⟩ | ⟨-, rfl⟩ :=
    s.hostMove_next op t h
  · exact State.hostRead_sameParams sp a
  · exact State.hostWrite_sameParams sp a v
  · exact hstatus
  · exact hstatus
  · rfl
  · rfl
  · rfl

theorem step_sameParams (h : step s = .next t) : s.sameParams t := by
  obtain ⟨i, -, hexec⟩ | ⟨code, off, -, rfl⟩ | ⟨-, hturn⟩ := step_next s t h
  · exact (exec_sameInputs hexec).params
  · rfl
  · obtain ⟨-, rfl⟩ | ⟨op, rest, -, hmove⟩ := s.hostTurn_next t hturn
    · exact s.tick_params
    · exact (State.hostMove_sameParams hmove).trans s.tick_params

end Keeps

/-- Settles O55. -/
theorem engineNeverWritesInputs : Obligations.EngineNeverWritesInputs := by
  refine ⟨fun i s t h => ?_, fun s t h => step_sameParams h⟩
  have h := exec_sameInputs h
  exact ⟨h.ibuf, h.inLen, h.count, h.bw, h.ie, h.ovr, h.params, h.hostQ, h.readData⟩

/-! ### Bytes at and above IN_LEN (R74) -/

/-- An outcome that is never a refusal, and the same outcome on another IBUF. -/
def State.SameButIbuf (m : Memory Byte) (o o' : Host.Outcome State Fault Refusal) : Prop :=
  (∀ t, o = .next t → o' = .next (t.withIbuf m)) ∧ (∀ f, o = .fault f → o' = .fault f) ∧ ∀ x, o ≠ .refused x

section Reads

variable {s : State} {m : Memory Byte}

theorem State.SameButIbuf.next (t : State) : State.SameButIbuf m (.next t) (.next (t.withIbuf m)) :=
  ⟨fun _ h => (by cases h; rfl), fun _ h => (by cases h), fun _ h => (by cases h)⟩

theorem State.SameButIbuf.fault (f : Fault) : State.SameButIbuf m (.fault f) (.fault f) :=
  ⟨fun _ h => (by cases h), fun _ h => (by cases h; rfl), fun _ h => (by cases h)⟩

theorem State.finish_sameButIbuf (n : Nat) (x : Res State) :
    State.SameButIbuf m (s.finish n x) ((s.withIbuf m).finish n (x.map (·.withIbuf m))) := by
  cases x with
  | ok t => exact .next t.complete
  | error e =>
    cases e with
    | engine code off => exact .next (s.faultEntry code off n)
    | model f => exact .fault f

theorem State.ItemOutcomes.sameButIbuf {o o' : Host.Outcome State Fault Refusal} (h : s.ItemOutcomes m o o') :
    State.SameButIbuf m o o' := by
  obtain ⟨f, g, rfl, rfl, hagree⟩ := h
  cases hengine : s.engine with
  | idle =>
    rw [State.runItem, State.runItem, State.withIbuf, hengine]
    exact .fault _
  | busy w left run =>
    cases run with
    | none =>
      rw [State.runItem, State.runItem, State.withIbuf, hengine]
      exact .fault _
    | some r =>
      have hengine' : (s.withIbuf m).engine = .busy w left (some r) := hengine
      have hset : (s.withIbuf m).runningWriteSet = s.runningWriteSet := by
        rw [State.runningWriteSet, State.runningWriteSet, hengine, hengine']
        exact State.writeSet_congr rfl rfl _
      rw [s.runItem_busy f w left r hengine, (s.withIbuf m).runItem_busy g w left r hengine', (hagree r).same, hset]
      cases f r with
      | ok p =>
        cases p with
        | more r' => exact .next _
        | finished t => exact .next _
      | error e =>
        cases e with
        | engine code off => exact .next (s.faultEntry code off _)
        | model f => exact .fault f

theorem exec_sameButIbuf (i : Instr) (hm : ∀ a, a < s.inLen.toNat → m.read a = s.ibuf.read a) :
    State.SameButIbuf m (exec i s) (exec i (s.withIbuf m)) := by
  obtain hcmd | hill | hitem := instr_command_or_illegal_or_item i
  · rw [exec_command s hcmd, exec_command _ hcmd, State.pseudocode_withIbuf hm hcmd, State.writeSet_congr rfl rfl]
    exact State.finish_sameButIbuf _ _
  · rw [exec_illegal s hill, exec_illegal _ hill]
    exact .next _
  · exact (exec_itemOutcomes hm hitem).sameButIbuf

end Reads

/-- Settles O59. -/
theorem bytesBeyondInLenNeverMatter : Obligations.BytesBeyondInLenNeverMatter :=
  fun i _ _ hm => exec_sameButIbuf i hm

end Sys2Proof.Machine

/-! Packed fields as bits of a number (spec/41_bitunpack.md): the source's two readers, and what packing packs. -/

namespace Sys2Proof.Machine

/-! ### Numbers by their bits (R10) -/

theorem ofBits_lt (n : Nat) (f : Nat → Bool) : ofBits n f < 2 ^ n := by
  induction n with
  | zero => exact Nat.one_pos
  | succ n ih =>
    rw [ofBits, Nat.pow_succ]
    split_ifs <;> omega

theorem testBit_ofBits (n i : Nat) (f : Nat → Bool) : (ofBits n f).testBit i = (decide (i < n) && f i) := by
  induction n with
  | zero => simp [ofBits]
  | succ n ih =>
    have hlt := ofBits_lt n f
    have hsum : ofBits (n + 1) f = 2 ^ n * (f n).toNat ||| ofBits n f := by
      rw [← Nat.two_pow_add_eq_or_of_lt hlt, ofBits, Nat.add_comm]
      cases f n <;> simp
    rw [hsum, Nat.testBit_or, ih, Nat.testBit_two_pow_mul]
    obtain hlt | rfl | hgt := Nat.lt_trichotomy i n
    · simp [hlt, Nat.lt_succ_of_lt hlt, Nat.not_le.2 hlt]
    · cases f i <;> simp
    · have hhigh : (f n).toNat < 2 ^ (i - n) :=
        (Bool.toNat_lt _).trans_le (Nat.pow_le_pow_right Nat.two_pos (by omega : 1 ≤ i - n))
      rw [Nat.testBit_lt_two_pow hhigh, decide_eq_false (by omega : ¬ i < n), decide_eq_false (by omega : ¬ i < n + 1)]
      simp

/-- A run of bits is a quotient's remainder. -/
theorem ofBits_testBit_add (r o n : Nat) : (ofBits n fun j => r.testBit (o + j)) = r / 2 ^ o % 2 ^ n := by
  refine Nat.eq_of_testBit_eq fun i => ?_
  rw [testBit_ofBits, Nat.testBit_mod_two_pow, Nat.testBit_div_two_pow, Nat.add_comm i o]

theorem mod_two_pow_mod_two_pow (x m n : Nat) : x % 2 ^ m % 2 ^ n = x % 2 ^ min m n := by
  refine Nat.eq_of_testBit_eq fun i => ?_
  simp only [Nat.testBit_mod_two_pow, ← Bool.and_assoc, ← Bool.decide_and, Nat.lt_min, and_comm]

theorem contigField_eq (r k b : Nat) : contigField r k b = r / 2 ^ (k * b) % 2 ^ b := ofBits_testBit_add r (k * b) b

theorem window32Field_eq (r k b : Nat) : window32Field r k b = r / 2 ^ (k * b) % 2 ^ min b (32 - k * b % 8) :=
  ofBits_testBit_add r (k * b) _

theorem testBit_loadWord (r p i : Nat) : (loadWord r p).testBit i = (decide (i < 32) && r.testBit (8 * p + i)) := by
  rw [loadWord, Nat.testBit_mod_two_pow, Nat.testBit_div_two_pow, Nat.add_comm i]

/-! ### The contiguous reader (R151) -/

/-- After `k` reads the reader stands at bit `k·b`. -/
theorem contigReaderAt_eq (r b k : Nat) : contigReaderAt r b k = ⟨k * b / 8, k * b % 8⟩ := by
  induction k with
  | zero => simp [contigReaderAt]
  | succ k ih =>
    have hmul : (k + 1) * b = k * b + b := Nat.succ_mul k b
    rw [contigReaderAt, ih, contigRead]
    simp only [ContigReader.mk.injEq]
    omega

theorem contigRead_eq_window32Field (r b k : Nat) :
    (contigRead r b (contigReaderAt r b k)).1 = window32Field r k b := by
  rw [contigReaderAt_eq, window32Field_eq]
  refine Nat.eq_of_testBit_eq fun i => ?_
  have hbit : 8 * (k * b / 8) + (i + k * b % 8) = i + k * b := by omega
  have hlt : (i < b ∧ i + k * b % 8 < 32) = (i < min b (32 - k * b % 8)) := by
    rw [eq_iff_iff, Nat.lt_min]
    omega
  simp only [contigRead, Nat.testBit_mod_two_pow, Nat.testBit_div_two_pow, testBit_loadWord, hbit, ← Bool.and_assoc,
    ← Bool.decide_and, hlt]

/-- Where the widths of R151's exception list are left out, no read reaches past its window. -/
theorem window_fits {b k : Nat} (hb : b ≤ 32) (hmem : b ∉ [27, 29, 30, 31]) : k * b % 8 + b ≤ 32 := by
  obtain hsmall | hlarge := Nat.lt_or_ge b 26
  · omega
  · have hcases : b = 26 ∨ b = 28 ∨ b = 32 := by
      simp only [List.mem_cons, List.not_mem_nil, or_false, not_or] at hmem
      omega
    obtain rfl | rfl | rfl := hcases <;> omega

/-- Settles O40. -/
theorem contiguousReaderIsWindow32 : Obligations.ContiguousReaderIsWindow32 := by
  intro r b k hpos hb
  have hb0 : b ≠ 0 := by omega
  refine ⟨if_neg hb0, if_neg hb0, contigRead_eq_window32Field r b k, ?_, fun hfits => ?_⟩
  · rw [window32Field_eq, contigField_eq, mod_two_pow_mod_two_pow]
  · have hwindow : b ≤ 32 - k * b % 8 := by
      have : k * b % 8 + b ≤ 32 := hfits.elim id (window_fits hb)
      omega
    rw [window32Field_eq, contigField_eq, Nat.min_eq_left hwindow]

/-! ### The lane reader (R155) -/

/-- After `i` reads lane `j`'s reader stands at bit `i·b` of its lane. -/
theorem laneReaderAt_eq (r b j i : Nat) : laneReaderAt r b j i = ⟨4 * j + 16 * (i * b / 32), i * b % 32⟩ := by
  induction i with
  | zero => simp [laneReaderAt]
  | succ i ih =>
    have hmul : (i + 1) * b = i * b + b := Nat.succ_mul i b
    rw [laneReaderAt, ih, laneRead]
    simp only [LaneReader.mk.injEq]
    omega

/-- A bit of a lane, counted from the word a reader stands at. -/
theorem laneBit_add (r j q t : Nat) : laneBit r j (q + t) =
    r.testBit (8 * (4 * j + 16 * (q / 32) + 16 * ((q % 32 + t) / 32)) + (q % 32 + t) % 32) := by
  rw [laneBit]
  congr 1
  omega

theorem testBit_loadWord_div (r p u t : Nat) :
    (loadWord r p / 2 ^ u).testBit t = (decide (t + u < 32) && r.testBit (8 * p + (t + u))) := by
  rw [Nat.testBit_div_two_pow, testBit_loadWord]

theorem testBit_loadWord_mul (r p k t : Nat) : (loadWord r p * 2 ^ k % 2 ^ 32).testBit t =
    (decide (t < 32) && (decide (k ≤ t) && (decide (t - k < 32) && r.testBit (8 * p + (t - k))))) := by
  rw [Nat.testBit_mod_two_pow, Nat.testBit_mul_two_pow, testBit_loadWord]

/-- What a lane's read takes from its word, and from the next one where the field crosses into it (R155). -/
theorem testBit_laneRead {r b t : Nat} {c : LaneReader} (ht : t < b) (hb : b ≤ 32) (hu : c.bitsUsed < 32) :
    (laneRead r b c).1.testBit t =
      r.testBit (8 * (c.p + 16 * ((c.bitsUsed + t) / 32)) + (c.bitsUsed + t) % 32) := by
  rw [laneRead, Nat.testBit_mod_two_pow, decide_eq_true ht, Bool.true_and]
  obtain hfirst | hsecond := Nat.lt_or_ge (c.bitsUsed + t) 32
  · have hpos : 8 * (c.p + 16 * ((c.bitsUsed + t) / 32)) + (c.bitsUsed + t) % 32 =
        8 * c.p + (t + c.bitsUsed) := by omega
    have hword : (loadWord r c.p / 2 ^ c.bitsUsed).testBit t = r.testBit (8 * c.p + (t + c.bitsUsed)) := by
      rw [testBit_loadWord_div, decide_eq_true (by omega), Bool.true_and]
    rw [hpos]
    split_ifs
    · rw [Nat.testBit_or, hword, testBit_loadWord_mul, decide_eq_false (by omega : ¬ 32 - c.bitsUsed ≤ t)]
      simp
    · exact hword
  · have hpos : 8 * (c.p + 16 * ((c.bitsUsed + t) / 32)) + (c.bitsUsed + t) % 32 =
        8 * (c.p + 16) + (t - (32 - c.bitsUsed)) := by omega
    rw [hpos, if_pos (by omega), Nat.testBit_or, testBit_loadWord_div, testBit_loadWord_mul,
      decide_eq_false (by omega : ¬ t + c.bitsUsed < 32), decide_eq_true (by omega : 32 - c.bitsUsed ≤ t),
      decide_eq_true (by omega : t - (32 - c.bitsUsed) < 32), decide_eq_true (by omega : t < 32)]
    simp

/-- Settles O41: a bit of the field stands in the first word read or in the second, as the reader takes it. -/
theorem laneReaderIsIlField : Obligations.LaneReaderIsIlField := by
  intro r b j i _ hb _
  rw [laneReaderAt_eq, ilField]
  refine Nat.eq_of_testBit_eq fun t => ?_
  rw [testBit_ofBits, laneBit_add]
  by_cases ht : t < b
  · rw [testBit_laneRead ht hb (Nat.mod_lt _ (by decide)), decide_eq_true ht, Bool.true_and]
  · rw [laneRead, Nat.testBit_mod_two_pow, decide_eq_false ht, Bool.false_and, Bool.false_and]

/-! ### Packing (R112, R118) -/

theorem contigField_packContig {b k : Nat} {vs : List Nat} (hvs : ∀ v ∈ vs, v < 2 ^ b) (hk : k < vs.length) :
    contigField (packContig b vs) k b = vs.getD k 0 := by
  induction vs generalizing k with
  | nil => exact absurd hk (Nat.not_lt_zero k)
  | cons v vs ih =>
    have hv : v < 2 ^ b := hvs v List.mem_cons_self
    rw [contigField_eq, packContig]
    cases k with
    | zero => rw [Nat.zero_mul, Nat.pow_zero, Nat.div_one, Nat.add_mul_mod_self_left, Nat.mod_eq_of_lt hv]; rfl
    | succ k =>
      have hdrop : (v + 2 ^ b * packContig b vs) / 2 ^ b = packContig b vs := by
        rw [Nat.add_mul_div_left _ _ (Nat.two_pow_pos b), Nat.div_eq_of_lt hv, Nat.zero_add]
      rw [Nat.succ_mul, Nat.pow_add, Nat.mul_comm (2 ^ (k * b)), ← Nat.div_div_eq_div_mul, hdrop, ← contigField_eq,
        ih (fun x hx => hvs x (List.mem_cons_of_mem _ hx)) (Nat.lt_of_succ_lt_succ hk)]
      rfl

/-- Bit `Q` of lane `j`, in the numbering of the region (R154). -/
theorem testBit_packIl {b j Q : Nat} {vs : List Nat} (hj : j < 4)
    (hQ : 128 * (Q / 32) + 32 * j + Q % 32 < vs.length * b) :
    (packIl b vs).testBit (128 * (Q / 32) + 32 * j + Q % 32) = (vs.getD (4 * (Q / b) + j) 0).testBit (Q % b) := by
  have hrow : 32 * ((128 * (Q / 32) + 32 * j + Q % 32) / 128) + (128 * (Q / 32) + 32 * j + Q % 32) % 32 = Q := by omega
  have hlane : (128 * (Q / 32) + 32 * j + Q % 32) % 128 / 32 = j := by omega
  rw [packIl, testBit_ofBits, decide_eq_true hQ, Bool.true_and]
  simp only [hrow, hlane]

theorem ilGap_packIl {b p : Nat} {vs : List Nat} (hb : 1 ≤ b) (hvs : ∀ v ∈ vs, v < 2 ^ b) (hlen : vs.length % 128 = 0)
    (hp : p < vs.length) : ilGap (packIl b vs) p b = vs.getD p 0 := by
  rw [ilGap, if_neg (by omega), ilField]
  refine Nat.eq_of_testBit_eq fun t => ?_
  rw [testBit_ofBits]
  by_cases ht : t < b
  · have hdiv : (p / 4 * b + t) / b = p / 4 := by
      rw [Nat.mul_comm, Nat.mul_add_div hb, Nat.div_eq_of_lt ht, Nat.add_zero]
    have hmod : (p / 4 * b + t) % b = t := by rw [Nat.mul_comm, Nat.mul_add_mod, Nat.mod_eq_of_lt ht]
    have hpos : 8 * (16 * ((p / 4 * b + t) / 32) + 4 * (p % 4)) + (p / 4 * b + t) % 32 =
        128 * ((p / 4 * b + t) / 32) + 32 * (p % 4) + (p / 4 * b + t) % 32 := by omega
    have hrows : (p / 4 * b + t) / 32 < vs.length / 128 * b := by
      rw [Nat.div_lt_iff_lt_mul (by decide)]
      have hfield : (p / 4 + 1) * b ≤ vs.length / 128 * 32 * b := Nat.mul_le_mul_right b (by omega)
      rw [Nat.succ_mul] at hfield
      rw [Nat.mul_right_comm]
      omega
    have hlast : vs.length * b = 128 * (vs.length / 128 * b) := by
      rw [← Nat.mul_assoc, Nat.mul_div_cancel' (Nat.dvd_of_mod_eq_zero hlen)]
    rw [decide_eq_true ht, Bool.true_and, laneBit, hpos, testBit_packIl (Nat.mod_lt _ (by decide)) (by omega), hdiv,
      hmod, Nat.div_add_mod]
  · have hmem : vs.getD p 0 < 2 ^ t := by
      rw [List.getD_eq_getElem _ _ hp]
      exact (hvs _ (List.getElem_mem hp)).trans_le (Nat.pow_le_pow_right (by decide) (Nat.not_lt.1 ht))
    rw [decide_eq_false ht, Bool.false_and, Nat.testBit_lt_two_pow hmem]

/-- Settles O6. -/
theorem packUnpackRoundTrip : Obligations.PackUnpackRoundTrip :=
  fun _ _ hpos _ hvs => ⟨fun _ hk => contigField_packContig hvs hk, fun hlen _ hp => ilGap_packIl hpos hvs hlen hp⟩

end Sys2Proof.Machine

/-! What the stream assembler writes is what the decoders read (R118; spec/40_scalar.md, spec/42_blocks.md,
spec/43_sequence.md). -/

namespace Sys2Proof.Machine

section Assembled

variable {s : State}

/-! ### Scalars (R132, R134) -/

theorem State.decodeBaseval_encode {c v : Nat} (hv : v < 2 ^ 21) (h : s.holds c (encodeBaseval v)) :
    s.decodeBaseval c = .ok (BitVec.ofNat 32 v, (encodeBaseval v).length) := by
  unfold encodeBaseval at h ⊢
  split_ifs at h ⊢ with h1 h2
  · obtain ⟨hc, hx, -⟩ := State.holds_cons h
    have hnum : (BitVec.ofNat 8 v).toNat = v := by rw [BitVec.toNat_ofNat]; omega
    rw [s.decodeBaseval_of_byte hc hx, if_pos (by omega), basevalForm1]
    congr 2
    exact BitVec.eq_of_toNat_eq (by rw [toNat_setWidth_byte, hnum, BitVec.toNat_ofNat]; omega)
  · obtain ⟨hc, hx, hrest⟩ := State.holds_cons h
    have hnum : (BitVec.ofNat 8 (128 + v / 256)).toNat = 128 + v / 256 := by rw [BitVec.toNat_ofNat]; omega
    rw [s.decodeBaseval_of_byte hc hx, if_neg (by omega), if_pos (by omega), s.basevalForm2_of_holds hrest]
    congr 2
    refine BitVec.eq_of_toNat_eq ?_
    rw [BitVec.toNat_setWidth, toNat_append_eq_add, BitVec.extractLsb'_toNat, hnum, Nat.shiftRight_zero,
      BitVec.toNat_ofNat, BitVec.toNat_ofNat]
    omega
  · obtain ⟨hc, hx, hrest⟩ := State.holds_cons h
    have hnum : (BitVec.ofNat 8 (192 + v / 65536)).toNat = 192 + v / 65536 := by rw [BitVec.toNat_ofNat]; omega
    rw [s.decodeBaseval_of_byte hc hx, if_neg (by omega), if_neg (by omega), if_pos (by omega),
      s.basevalForm3_of_holds hrest]
    congr 2
    refine BitVec.eq_of_toNat_eq ?_
    rw [BitVec.toNat_setWidth, toNat_append_eq_add, toNat_append_eq_add, BitVec.extractLsb'_toNat, hnum,
      Nat.shiftRight_zero, BitVec.toNat_ofNat, BitVec.toNat_ofNat, BitVec.toNat_ofNat]
    omega

theorem State.decodeVb_encode {c v : Nat} (hv : v < 2 ^ 32) (h : s.holds c (encodeVb v)) :
    s.decodeVb c = .ok (BitVec.ofNat 32 v, (encodeVb v).length) := by
  unfold encodeVb at h ⊢
  split_ifs at h ⊢ with h1 h2 h3 h4
  · obtain ⟨hc, hx, -⟩ := State.holds_cons h
    have hnum : (BitVec.ofNat 8 v).toNat = v := by rw [BitVec.toNat_ofNat]; omega
    rw [s.decodeVb_of_byte hc hx, if_pos (by omega), vbForm1]
    congr 2
    exact BitVec.eq_of_toNat_eq (by rw [toNat_setWidth_byte, hnum, BitVec.toNat_ofNat]; omega)
  · obtain ⟨hc, hx, hrest⟩ := State.holds_cons h
    have hnum : (BitVec.ofNat 8 (177 + (v - 177) / 256)).toNat = 177 + (v - 177) / 256 := by
      rw [BitVec.toNat_ofNat]; omega
    rw [s.decodeVb_of_byte hc hx, if_neg (by omega), if_pos (by omega), s.vbForm2_of_holds (by omega) hrest, hnum,
      BitVec.toNat_ofNat]
    congr 3
    omega
  · obtain ⟨hc, hx, hrest⟩ := State.holds_cons h
    have hnum : (BitVec.ofNat 8 (241 + (v - 16561) / 65536)).toNat = 241 + (v - 16561) / 65536 := by
      rw [BitVec.toNat_ofNat]; omega
    rw [s.decodeVb_of_byte hc hx, if_neg (by omega), if_neg (by omega), if_pos (by omega),
      s.vbForm3_of_holds (by omega) hrest, hnum, BitVec.toNat_ofNat, BitVec.toNat_ofNat]
    congr 3
    omega
  · obtain ⟨hc, hx, hrest⟩ := State.holds_cons h
    rw [s.decodeVb_of_byte hc hx, if_neg (by decide), if_neg (by decide), if_neg (by decide), if_pos (by decide),
      s.vbForm4_of_holds (leBytes_length 3 v) hrest, leNat_leBytes, Nat.mod_eq_of_lt (b := 256 ^ 3) h4]
    rfl
  · obtain ⟨hc, hx, hrest⟩ := State.holds_cons h
    rw [s.decodeVb_of_byte hc hx, if_neg (by decide), if_neg (by decide), if_neg (by decide), if_neg (by decide),
      if_pos (by decide), s.vbForm5_of_holds (leBytes_length 4 v) hrest, leNat_leBytes,
      Nat.mod_eq_of_lt (b := 256 ^ 4) hv]
    rfl

/-! ### Packed regions (R112, R150) -/

theorem packContig_lt {b : Nat} {vs : List Nat} (hvs : ∀ v ∈ vs, v < 2 ^ b) :
    packContig b vs < 2 ^ (vs.length * b) := by
  induction vs with
  | nil => exact Nat.one_pos.trans_le (Nat.one_le_two_pow)
  | cons v vs ih =>
    obtain ⟨hv, hvs⟩ := List.forall_mem_cons.1 hvs
    have hrest : packContig b vs + 1 ≤ 2 ^ (vs.length * b) := ih hvs
    rw [packContig, List.length_cons, Nat.succ_mul, Nat.add_comm (_ * b), Nat.pow_add]
    calc v + 2 ^ b * packContig b vs < 2 ^ b + 2 ^ b * packContig b vs := Nat.add_lt_add_right hv _
      _ = 2 ^ b * (packContig b vs + 1) := by rw [Nat.mul_succ, Nat.add_comm]
      _ ≤ 2 ^ b * 2 ^ (vs.length * b) := Nat.mul_le_mul_left _ hrest

theorem leNat_leBytes_packContig {b : Nat} {vs : List Nat} (hvs : ∀ v ∈ vs, v < 2 ^ b) :
    leNat (leBytes (ceilDiv (vs.length * b) 8) (packContig b vs)) = packContig b vs := by
  rw [leNat_leBytes]
  refine Nat.mod_eq_of_lt ((packContig_lt hvs).trans_le ?_)
  rw [show (256 : Nat) = 2 ^ 8 from rfl, ← Nat.pow_mul]
  exact Nat.pow_le_pow_right Nat.two_pos (by unfold ceilDiv; omega)

theorem field_packContig {b k : Nat} {vs : List Nat} (hvs : ∀ v ∈ vs, v < 2 ^ b) (hk : k < vs.length) :
    field .exact (packContig b vs) k b = vs.getD k 0 := by
  unfold field
  split_ifs with hb
  · subst hb
    have hzero := hvs _ (List.getElem_mem hk)
    rw [List.getD_eq_getElem _ _ hk]
    omega
  · exact contigField_packContig hvs hk

/-- The fields of an assembled contiguous region, on the EXACT reader. -/
theorem unpackFields_packContig {p : Params} {b : Nat} {vs : List Nat} (hmode : p.contigMode = .exact)
    (hvs : ∀ v ∈ vs, v < 2 ^ b) :
    unpackFields p (leNat (leBytes (ceilDiv (vs.length * b) 8) (packContig b vs))) vs.length b false =
      vs.map (BitVec.ofNat 32) := by
  rw [leNat_leBytes_packContig hvs, unpackFields, if_neg (by decide), hmode]
  refine List.ext_getElem (by simp) fun k hk hk' => ?_
  have hlen : k < vs.length := by simpa using hk'
  simp only [List.getElem_map, List.getElem_range]
  rw [field_packContig hvs hlen, List.getD_eq_getElem _ _ hlen]

/-! ### FOR blocks and sequences (R174, R210) -/

theorem toNat_width {b : Nat} (hb : b ≤ 32) : (BitVec.ofNat 6 b).toNat = b := by
  rw [BitVec.toNat_ofNat]
  omega

/-- With an assembled header at hand, the block its type and width say is decoded (R171). -/
theorem State.decodeBlock_of_hdr {c num b : Nat} {ty : BlockType} {prev : Word} {rest : List Byte} (hb : b ≤ 32)
    (h : s.holds c (hdrByte ty (BitVec.ofNat 6 b) :: rest)) :
    s.decodeBlock c num false prev = s.blockGaps ty c num b false >>= fun p => .ok (scan prev p.1, p.2) := by
  obtain ⟨hc, hx, -⟩ := State.holds_cons h
  rw [State.decodeBlock_of_header hc hx, hdrByte_width, toNat_width hb, if_neg (Nat.not_lt.2 hb), decodeType_hdrByte]
  rfl

theorem assemble_blockFor (b : Nat) (g : List Nat) : assemble (StreamItem.blockFor b g) =
    hdrByte .for_ (BitVec.ofNat 6 b) :: leBytes (ceilDiv (g.length * b) 8) (packContig b g) := by
  simp [assemble, StreamItem.blockFor, StreamItem.toBytes]

theorem State.decodeBlock_blockFor {c b : Nat} {g : List Nat} {prev : Word} (hmode : s.params.contigMode = .exact)
    (hb : b ≤ 32) (hg : ∀ x ∈ g, x < 2 ^ b) (h : s.holds c (assemble (StreamItem.blockFor b g))) :
    s.decodeBlock c g.length false prev =
      .ok (scan prev (g.map (BitVec.ofNat 32)), c + (assemble (StreamItem.blockFor b g)).length) := by
  rw [assemble_blockFor] at h ⊢
  obtain ⟨-, -, hbody⟩ := State.holds_cons h
  have hgaps := State.forGaps_of_regionHolds (num := g.length) (b := b) (il := false)
    (xs := leBytes (ceilDiv (g.length * b) 8) (packContig b g)) (leBytes_length _ _) (.inr hbody)
  rw [State.decodeBlock_of_hdr hb h, State.blockGaps, hgaps, Res.bind_ok, unpackFields_packContig hmode hg,
    List.length_cons, Nat.add_assoc, Nat.add_comm 1]

/-- The stored gaps of assembled blocks. -/
def blockGapsOf (blocks : List (Nat × List Nat)) : List Nat := blocks.flatMap fun p => p.2

/-- The bytes of assembled FOR blocks. -/
def blockBytesOf (blocks : List (Nat × List Nat)) : List Byte :=
  assemble (blocks.flatMap fun p => StreamItem.blockFor p.1 p.2)

theorem blockBytesOf_cons (p : Nat × List Nat) (blocks : List (Nat × List Nat)) :
    blockBytesOf (p :: blocks) = assemble (StreamItem.blockFor p.1 p.2) ++ blockBytesOf blocks := by
  simp [blockBytesOf, assemble, List.flatMap_append]

theorem State.seqBlocks_zero (il : Bool) (k cur : Nat) (prev : Word) : s.seqBlocks il k 0 cur prev = .ok ([], cur) := by
  cases k <;> rfl

/-- The block loop over assembled FOR blocks, all but the last full. -/
theorem State.seqBlocks_assembled {k cur : Nat} {prev : Word} {blocks : List (Nat × List Nat)}
    (hmode : s.params.contigMode = .exact)
    (hblocks : ∀ p ∈ blocks, p.1 ≤ 32 ∧ 1 ≤ p.2.length ∧ p.2.length ≤ s.params.bs ∧ ∀ x ∈ p.2, x < 2 ^ p.1)
    (hfull : ∀ p ∈ blocks.dropLast, p.2.length = s.params.bs) (hk : (blockGapsOf blocks).length ≤ k * s.params.bs)
    (h : s.holds cur (blockBytesOf blocks)) :
    s.seqBlocks false k (blockGapsOf blocks).length cur prev =
      .ok (scan prev ((blockGapsOf blocks).map (BitVec.ofNat 32)), cur + (blockBytesOf blocks).length) := by
  induction blocks generalizing k cur prev with
  | nil => exact State.seqBlocks_zero _ _ _ _
  | cons p blocks ih =>
    obtain ⟨⟨hb, hpos, hle, hg⟩, hblocks⟩ := List.forall_mem_cons.1 hblocks
    have hgaps : blockGapsOf (p :: blocks) = p.2 ++ blockGapsOf blocks := List.flatMap_cons
    have hnum : min (blockGapsOf (p :: blocks)).length s.params.bs = p.2.length ∧
        (blocks = [] ∨ p.2.length = s.params.bs) := by
      cases blocks with
      | nil =>
        rw [hgaps]
        exact ⟨by simpa [blockGapsOf] using hle, .inl rfl⟩
      | cons q blocks =>
        have hp : p.2.length = s.params.bs := hfull p (by rw [List.dropLast_cons_cons]; exact List.mem_cons_self)
        rw [hgaps, List.length_append]
        exact ⟨by omega, .inr hp⟩
    obtain ⟨hnum, hlast⟩ := hnum
    rw [blockBytesOf_cons] at h ⊢
    obtain ⟨hblock, hrest⟩ := State.holds_append h
    have hlen : (blockGapsOf (p :: blocks)).length = p.2.length + (blockGapsOf blocks).length := by
      rw [hgaps, List.length_append]
    have hrestFits : (blockGapsOf blocks).length + s.params.bs ≤ k * s.params.bs ∨ blocks = [] := by
      obtain rfl | hp := hlast
      · exact .inr rfl
      · exact .inl (by omega)
    obtain ⟨k, rfl⟩ : ∃ k', k = k' + 1 := Nat.exists_eq_succ_of_ne_zero (by rintro rfl; omega)
    have hk' : (blockGapsOf blocks).length ≤ k * s.params.bs := by
      obtain hfits | rfl := hrestFits
      · rw [Nat.succ_mul] at hfits
        omega
      · exact Nat.zero_le _
    have hdrop : ∀ q ∈ blocks.dropLast, q.2.length = s.params.bs := by
      cases blocks with
      | nil => exact fun q hq => absurd hq List.not_mem_nil
      | cons q blocks => exact fun x hx => hfull x (List.mem_cons_of_mem _ hx)
    rw [State.seqBlocks, if_neg (by omega)]
    simp only [hnum]
    rw [State.decodeBlock_blockFor hmode hb hg hblock, Res.bind_ok, hlen, Nat.add_sub_cancel_left,
      ih hblocks hdrop hk' hrest, Res.bind_ok, hgaps, List.map_append, scan_append, List.length_append, Nat.add_assoc]

end Assembled

/-- Settles O7: the seed, then the block loop. -/
theorem sequenceRoundTrip : Obligations.SequenceRoundTrip := by
  intro s c v blocks hmode hv hblocks hfull h
  have hbytes : assemble (.baseval v :: blocks.flatMap fun p => StreamItem.blockFor p.1 p.2) =
      encodeBaseval v ++ blockBytesOf blocks := List.flatMap_cons
  rw [hbytes] at h ⊢
  obtain ⟨hseed, hrest⟩ := State.holds_append h
  have hloop := State.seqBlocks_assembled (prev := BitVec.ofNat 32 v) hmode hblocks hfull
    (le_ceilDiv_mul _ (Params.bs_pos s.params)) hrest
  change s.decodeSeq c (1 + (blockGapsOf blocks).length) false = .ok
    (BitVec.ofNat 32 v :: scan (BitVec.ofNat 32 v) ((blockGapsOf blocks).map (BitVec.ofNat 32)), _)
  rw [State.decodeSeq, State.decodeBaseval_encode hv hseed, Res.bind_ok, Nat.add_sub_cancel_left]
  dsimp only
  rw [hloop, Res.bind_ok, List.length_append, Nat.add_assoc]

/-- Settles O5. -/
theorem scalarRoundTrip : Obligations.ScalarRoundTrip :=
  fun _ _ _ => ⟨State.decodeBaseval_encode, State.decodeVb_encode⟩

section Exceptions

variable {s : State}

/-! ### PFOR_VB blocks (R178–R180) -/

theorem State.vbValues_assembled {e : Nat} {xs : List Nat} (hxs : ∀ x ∈ xs, x < 2 ^ 32)
    (h : s.holds e (xs.flatMap encodeVb)) :
    s.vbValues e xs.length = .ok (xs.map (BitVec.ofNat 32), e + (xs.flatMap encodeVb).length) := by
  induction xs generalizing e with
  | nil => rfl
  | cons x xs ih =>
    obtain ⟨hx, hxs⟩ := List.forall_mem_cons.1 hxs
    rw [List.flatMap_cons] at h ⊢
    obtain ⟨hfirst, hrest⟩ := State.holds_append h
    rw [List.length_cons, State.vbValues, State.decodeVb_encode hx hfirst, Res.bind_ok]
    dsimp only
    rw [ih hxs hrest, Res.bind_ok, List.map_cons, List.length_append, Nat.add_assoc]

/-- No vb scalar begins with the escape byte. -/
theorem encodeVb_eq_cons (v : Nat) : ∃ x xs, encodeVb v = x :: xs ∧ x ≠ 0xFF#8 := by
  have hne {n : Nat} (hn : n < 255) : BitVec.ofNat 8 n ≠ 0xFF#8 := by
    intro h
    have := congrArg BitVec.toNat h
    rw [BitVec.toNat_ofNat, BitVec.toNat_ofNat] at this
    omega
  unfold encodeVb
  split_ifs with h1 h2 h3 h4
  · exact ⟨_, _, rfl, hne (by omega)⟩
  · exact ⟨_, _, rfl, hne (by omega)⟩
  · exact ⟨_, _, rfl, hne (by omega)⟩
  · exact ⟨_, _, rfl, by decide⟩
  · exact ⟨_, _, rfl, by decide⟩

/-- The bytes of an exception area of the values `xs`, in the escape form or in the vb form (R109). -/
def excBytesOf (esc : Bool) (xs : List Nat) : List Byte :=
  if esc then 0xFF#8 :: xs.flatMap (leBytes 4) else xs.flatMap encodeVb

theorem State.excArea_assembled {e : Nat} {esc : Bool} {xs : List Nat} (hne : xs ≠ []) (hxs : ∀ x ∈ xs, x < 2 ^ 32)
    (h : s.holds e (excBytesOf esc xs)) :
    s.excArea e xs.length = .ok (xs.map (BitVec.ofNat 32), e + (excBytesOf esc xs).length) := by
  have hlen : xs.length ≠ 0 := fun hz => hne (List.length_eq_zero_iff.1 hz)
  unfold excBytesOf at h ⊢
  cases esc with
  | true =>
    rw [if_pos rfl] at h ⊢
    obtain ⟨he, hx, hrest⟩ := State.holds_cons h
    have hwords : xs.flatMap (leBytes 4) = (xs.map (BitVec.ofNat 32)).flatMap fun v => leBytes 4 v.toNat := by
      rw [List.flatMap_map]
      exact List.flatMap_congr fun x hmem => by rw [BitVec.toNat_ofNat, Nat.mod_eq_of_lt (hxs x hmem)]
    have hbytes : (xs.flatMap (leBytes 4)).length = 4 * xs.length := by
      rw [List.length_flatMap]
      simp only [leBytes_length, List.map_const', List.sum_replicate, smul_eq_mul, Nat.mul_comm]
    rw [hwords] at hrest
    have hvalues := State.escValues_of_holds hrest
    rw [List.length_map] at hvalues
    rw [State.excArea_of_byte hlen he hx, if_pos rfl, hvalues, List.length_cons, hbytes, Nat.add_assoc, Nat.add_comm 1]
  | false =>
    rw [if_neg (by decide)] at h ⊢
    obtain ⟨x, xs, rfl⟩ := List.exists_cons_of_ne_nil hne
    obtain ⟨y, ys, hy, hff⟩ := encodeVb_eq_cons x
    have hfirst := h
    rw [List.flatMap_cons, hy, List.cons_append] at hfirst
    obtain ⟨he, hread, -⟩ := State.holds_cons hfirst
    rw [State.excArea_of_byte hlen he hread, if_neg hff, State.vbValues_assembled hxs h]

/-- The index bytes of assembled exceptions (R178). -/
theorem State.pforVbPatch_assembled {e num b : Nat} {exc : List (Nat × Nat)} {g : List Word}
    (hexc : ∀ p ∈ exc, p.1 < num ∧ p.1 < 256) (h : s.holds e (exc.map fun p => BitVec.ofNat 8 p.1)) :
    s.pforVbPatch num b g (exc.map fun p => BitVec.ofNat 32 p.2) e =
      .ok (orAll b g (exc.map fun p => (p.1, BitVec.ofNat 32 p.2)), e + exc.length) := by
  have hlt (i : Byte) (hi : i ∈ exc.map fun p => BitVec.ofNat 8 p.1) : i.toNat < num := by
    obtain ⟨p, hp, rfl⟩ := List.mem_map.1 hi
    exact (Nat.mod_le _ _).trans_lt (hexc p hp).1
  have hlen : (exc.map fun p => BitVec.ofNat 8 p.1).length = (exc.map fun p => BitVec.ofNat 32 p.2).length := by
    rw [List.length_map, List.length_map]
  have hpairs : ((exc.map fun p => BitVec.ofNat 8 p.1).map BitVec.toNat).zip (exc.map fun p => BitVec.ofNat 32 p.2) =
      exc.map fun p => (p.1, BitVec.ofNat 32 p.2) := by
    rw [List.map_map, ← List.zip_map']
    congr 1
    refine List.map_congr_left fun p hp => ?_
    rw [Function.comp_apply, BitVec.toNat_ofNat, Nat.mod_eq_of_lt (hexc p hp).2]
  rw [State.pforVbPatch_of_regionHolds hlen (.inr h), State.patchFrom_of_lt hlen (.inr h) hlt, hpairs, List.length_map]

/-- The bytes of an assembled PFOR_VB block after its header. -/
def pforVbBytesOf (esc : Bool) (b : Nat) (exc : List (Nat × Nat)) (g : List Nat) : List Byte :=
  BitVec.ofNat 8 exc.length :: (leBytes (ceilDiv (g.length * b) 8) (packContig b g) ++
    (excBytesOf esc (exc.map Prod.snd) ++ exc.map fun p => BitVec.ofNat 8 p.1))

theorem assemble_blockPforVb (b : Nat) (exc : List (Nat × Nat)) (g : List Nat) :
    assemble (StreamItem.blockPforVb b exc g) =
      hdrByte .pforVb (BitVec.ofNat 6 b) :: pforVbBytesOf false b exc g := by
  simp [assemble, StreamItem.blockPforVb, StreamItem.toBytes, pforVbBytesOf, excBytesOf, List.flatMap_append,
    List.flatMap_map, leBytes]
  exact List.map_eq_flatMap.symm

theorem assemble_blockPforVbEsc (b : Nat) (exc : List (Nat × Nat)) (g : List Nat) :
    assemble (StreamItem.blockPforVbEsc b exc g) =
      hdrByte .pforVb (BitVec.ofNat 6 b) :: pforVbBytesOf true b exc g := by
  simp [assemble, StreamItem.blockPforVbEsc, StreamItem.toBytes, pforVbBytesOf, excBytesOf, List.flatMap_append,
    List.flatMap_map, leBytes]
  exact List.map_eq_flatMap.symm

theorem State.pforVbGaps_assembled {c b : Nat} {esc : Bool} {exc : List (Nat × Nat)} {g : List Nat}
    (hmode : s.params.contigMode = .exact) (hb : b < 32) (hg : ∀ x ∈ g, x < 2 ^ b) (hpos : 1 ≤ exc.length)
    (hle : exc.length ≤ 255) (hexc : ∀ p ∈ exc, p.1 < g.length ∧ p.1 < 256 ∧ p.2 < 2 ^ 32)
    (h : s.holds (c + 1) (pforVbBytesOf esc b exc g)) :
    s.pforVbGaps c g.length b false =
      .ok (orAll b (g.map (BitVec.ofNat 32)) (exc.map fun p => (p.1, BitVec.ofNat 32 p.2)),
        c + 1 + (pforVbBytesOf esc b exc g).length) := by
  obtain ⟨hc, hn, hrest⟩ := State.holds_cons h
  obtain ⟨hbase, hrest⟩ := State.holds_append hrest
  obtain ⟨harea, hindex⟩ := State.holds_append hrest
  have hnum : (BitVec.ofNat 8 exc.length).toNat = exc.length := by
    rw [BitVec.toNat_ofNat]
    omega
  have hgaps := State.pforVbBase_of_regionHolds (s := s) (c := c) (num := g.length) (b := b) (n := exc.length)
    (il := false) (bv := leBytes (ceilDiv (g.length * b) 8) (packContig b g)) (by omega) (leBytes_length _ _) (.inr hbase)
  have hne : exc.map Prod.snd ≠ [] := fun hnil => by
    rw [List.map_eq_nil_iff.1 hnil] at hpos
    exact absurd hpos (by decide)
  have hwords (x : Nat) (hx : x ∈ exc.map Prod.snd) : x < 2 ^ 32 := by
    obtain ⟨p, hp, rfl⟩ := List.mem_map.1 hx
    exact (hexc p hp).2.2
  have hvalues := State.excArea_assembled hne hwords harea
  rw [List.length_map, List.map_map] at hvalues
  rw [State.pforVbGaps_of_nexc hc hn, hnum, hgaps, Res.bind_ok, unpackFields_packContig hmode hg]
  dsimp only
  rw [hvalues, Res.bind_ok]
  refine (State.pforVbPatch_assembled (fun p hp => ⟨(hexc p hp).1, (hexc p hp).2.1⟩) hindex).trans ?_
  congr 2
  simp only [pforVbBytesOf, List.length_cons, List.length_append, List.length_map]
  omega

/-- Settles O8. -/
theorem pforVbBlockRoundTrip : Obligations.PforVbBlockRoundTrip := by
  intro s c b exc g prev items hmode hb hg hpos hle hexc hitems h
  obtain ⟨esc, hbytes⟩ : ∃ esc, assemble items = hdrByte .pforVb (BitVec.ofNat 6 b) :: pforVbBytesOf esc b exc g := by
    obtain rfl | rfl := hitems
    · exact ⟨false, assemble_blockPforVb b exc g⟩
    · exact ⟨true, assemble_blockPforVbEsc b exc g⟩
  rw [hbytes] at h ⊢
  obtain ⟨-, -, hbody⟩ := State.holds_cons h
  rw [State.decodeBlock_of_hdr (by omega) h, State.blockGaps,
    State.pforVbGaps_assembled hmode hb hg hpos hle hexc hbody, Res.bind_ok, List.length_cons, Nat.add_assoc, Nat.add_comm 1]

end Exceptions

end Sys2Proof.Machine

/-! Both flavours of a full block answer the same gaps from matching encodings (spec/42_blocks.md R187). -/

namespace Sys2Proof.Machine

/-! ### Pseudocode that answers alike on two streams -/

/-- Wherever `x` answers a value, `y` answers one related to it. -/
def Simulates {α β : Type} (R : α → β → Prop) (x : Res α) (y : Res β) : Prop :=
  ∀ a, x = .ok a → ∃ b, y = .ok b ∧ R a b

section Rules

variable {α β γ δ : Type} {R : α → β → Prop} {Q : γ → δ → Prop}

theorem Simulates.ok {a : α} {b : β} (h : R a b) : Simulates R (.ok a) (.ok b) := by
  intro a' ha
  cases ha
  exact ⟨b, rfl, h⟩

theorem Simulates.error {y : Res β} (e : Stop) : Simulates R (.error e) y := by
  intro a ha
  cases ha

theorem Simulates.bind {x : Res α} {y : Res β} {f : α → Res γ} {g : β → Res δ} (hx : Simulates R x y)
    (hf : ∀ a b, R a b → Simulates Q (f a) (g b)) : Simulates Q (x >>= f) (y >>= g) := by
  intro c hc
  obtain ⟨a, ha, hfa⟩ := (Res.bind_eq_ok _ _ _).1 hc
  obtain ⟨b, rfl, hR⟩ := hx a ha
  exact hf a b hR c hfa

theorem Simulates.ite {c d : Prop} [Decidable c] [Decidable d] {x x' : Res α} {y y' : Res β} (hcd : c ↔ d)
    (h : c → Simulates R x y) (h' : ¬ c → Simulates R x' y') :
    Simulates R (if c then x else x') (if d then y else y') := by
  by_cases hc : c
  · rw [if_pos hc, if_pos (hcd.1 hc)]
    exact h hc
  · rw [if_neg hc, if_neg (mt hcd.2 hc)]
    exact h' hc

end Rules

/-- From `p` in `s` and from `q` in `t` on the streams are the same, up to their ends. -/
structure State.ShiftedStream (s t : State) (p q : Nat) : Prop where
  params : t.params = s.params
  inLen : s.inLen.toNat + q = t.inLen.toNat + p
  bytes : ∀ k, s.ibuf.read (p + k) = t.ibuf.read (q + k)

/-- The same values, and cursors as far from `p` and from `q`. -/
def SameValues (p q : Nat) {α : Type} (x y : α × Nat) : Prop := x.1 = y.1 ∧ ∃ k, x.2 = p + k ∧ y.2 = q + k

section Shifted

variable {s t : State} {p q : Nat} (h : s.ShiftedStream t p q)

include h

theorem State.ShiftedStream.need (k n : Nat) : Simulates Eq (s.need (p + k) n) (t.need (q + k) n) := by
  intro _ hneed
  have hfit := (s.need_ok _ _ _).1 hneed
  have hend := h.inLen
  exact ⟨(), (t.need_ok _ _ _).2 (by omega), rfl⟩

theorem State.ShiftedStream.byteAt (k : Nat) : Simulates Eq (s.byteAt (p + k)) (t.byteAt (q + k)) := by
  intro x hx
  rw [s.byteAt_ok, h.bytes] at hx
  exact ⟨x, (t.byteAt_ok _ _).2 hx, rfl⟩

theorem State.ShiftedStream.bytesAt (k n : Nat) : Simulates Eq (s.bytesAt (p + k) n) (t.bytesAt (q + k) n) := by
  induction n generalizing k with
  | zero => exact .ok rfl
  | succ n ih =>
    refine (h.byteAt k).bind ?_
    rintro x _ rfl
    refine (ih (k + 1)).bind ?_
    rintro xs _ rfl
    exact .ok rfl

theorem State.ShiftedStream.memRead (k n : Nat) : Simulates Eq (s.memRead (p + k) n) (t.memRead (q + k) n) := by
  refine (h.need k n).bind fun _ _ _ => (h.bytesAt k n).bind ?_
  rintro xs _ rfl
  exact .ok rfl

theorem State.ShiftedStream.decodeVb (k : Nat) : Simulates Eq (s.decodeVb (p + k)) (t.decodeVb (q + k)) := by
  refine (h.need k 1).bind fun _ _ _ => (h.byteAt k).bind ?_
  rintro x _ rfl
  refine .ite Iff.rfl (fun _ => .ok rfl) fun _ => .ite Iff.rfl (fun _ => ?two) fun _ => .ite Iff.rfl (fun _ => ?three)
    fun _ => .ite Iff.rfl (fun _ => ?four) fun _ => .ite Iff.rfl (fun _ => ?five) fun _ => .error _
  case two =>
    refine (h.need k 2).bind fun _ _ _ => (h.byteAt (k + 1)).bind ?_
    rintro b _ rfl
    exact .ok rfl
  case three =>
    refine (h.need k 3).bind fun _ _ _ => (h.memRead (k + 1) 2).bind ?_
    rintro v _ rfl
    exact .ok rfl
  case four =>
    refine (h.need k 4).bind fun _ _ _ => (h.memRead (k + 1) 3).bind ?_
    rintro v _ rfl
    exact .ok rfl
  case five =>
    refine (h.need k 5).bind fun _ _ _ => (h.memRead (k + 1) 4).bind ?_
    rintro v _ rfl
    exact .ok rfl

theorem State.ShiftedStream.escValues (k n : Nat) :
    Simulates (SameValues p q) (s.escValues (p + k) n) (t.escValues (q + k) n) := by
  induction n generalizing k with
  | zero => exact .ok ⟨rfl, k, rfl, rfl⟩
  | succ n ih =>
    refine (h.memRead k 4).bind ?_
    rintro v _ rfl
    refine (ih (k + 4)).bind ?_
    rintro ⟨vs, e⟩ ⟨_, e'⟩ ⟨rfl, hcur⟩
    exact .ok ⟨rfl, hcur⟩

theorem State.ShiftedStream.vbValues (k n : Nat) :
    Simulates (SameValues p q) (s.vbValues (p + k) n) (t.vbValues (q + k) n) := by
  induction n generalizing k with
  | zero => exact .ok ⟨rfl, k, rfl, rfl⟩
  | succ n ih =>
    refine (h.decodeVb k).bind ?_
    rintro ⟨v, len⟩ _ rfl
    have hrest := ih (k + len)
    rw [← Nat.add_assoc, ← Nat.add_assoc] at hrest
    refine hrest.bind ?_
    rintro ⟨vs, e⟩ ⟨_, e'⟩ ⟨rfl, hcur⟩
    exact .ok ⟨rfl, hcur⟩

theorem State.ShiftedStream.excEmpty (k : Nat) :
    Simulates (fun e e' => ∃ j, e = p + j ∧ e' = q + j) (s.excEmpty (p + k)) (t.excEmpty (q + k)) := by
  have hend : p + k < s.inLen.toNat ↔ q + k < t.inLen.toNat := by
    have := h.inLen
    omega
  unfold State.excEmpty
  rw [h.params]
  cases s.params.vbEmpty with
  | noRead => exact .ok ⟨k, rfl, rfl⟩
  | faultOnFf =>
    refine .ite hend (fun _ => (h.byteAt k).bind ?_) fun _ => .ok ⟨k, rfl, rfl⟩
    rintro x _ rfl
    exact .ite Iff.rfl (fun _ => .error _) fun _ => .ok ⟨k, rfl, rfl⟩
  | consume =>
    refine .ite hend (fun _ => (h.byteAt k).bind ?_) fun _ => .ok ⟨k, rfl, rfl⟩
    rintro x _ rfl
    exact .ite Iff.rfl (fun _ => .ok ⟨k + 1, rfl, rfl⟩) fun _ => .ok ⟨k, rfl, rfl⟩

theorem State.ShiftedStream.excArea (k n : Nat) :
    Simulates (SameValues p q) (s.excArea (p + k) n) (t.excArea (q + k) n) := by
  refine .ite Iff.rfl (fun _ => (h.excEmpty k).bind fun e e' hcur => .ok ⟨rfl, hcur⟩) fun _ => ?_
  refine (h.need k 1).bind fun _ _ _ => (h.byteAt k).bind ?_
  rintro x _ rfl
  exact .ite Iff.rfl (fun _ => h.escValues (k + 1) n) fun _ => h.vbValues k n

theorem State.ShiftedStream.patchFrom (num b : Nat) (g : List Word) (k : Nat) (xs : List Word) :
    Simulates (SameValues p q) (s.patchFrom num b g (p + k) xs) (t.patchFrom num b g (q + k) xs) := by
  induction xs generalizing g k with
  | nil => exact .ok ⟨rfl, k, rfl, rfl⟩
  | cons x xs ih =>
    refine (h.byteAt k).bind ?_
    rintro i _ rfl
    exact .ite Iff.rfl (fun _ => .error _) fun _ => ih _ (k + 1)

/-- What follows the base values of a PFOR_VB block (R178, R180). -/
theorem State.ShiftedStream.exceptions (num b n : Nat) (g : List Word) :
    Simulates (SameValues p q) (s.excArea p n >>= fun x => s.pforVbPatch num b g x.1 x.2)
      (t.excArea q n >>= fun x => t.pforVbPatch num b g x.1 x.2) := by
  refine (h.excArea 0 n).bind ?_
  rintro ⟨xs, _⟩ ⟨_, _⟩ ⟨rfl, k, rfl, rfl⟩
  exact (h.need k _).bind fun _ _ _ => h.patchFrom num b g k xs

end Shifted

/-! ### Base values -/

section Flavours

variable {s t : State} {x y b : Nat} {g g' : List Word}

/-- A full block's two flavours take as many bytes (R157). -/
theorem Params.ceilDiv_full (p : Params) (b : Nat) : ceilDiv (p.bs * b) 8 = p.bs * b / 8 := by
  unfold ceilDiv
  cases hbs : p.blockSize with
  | bs128 => simp only [Params.bs, hbs, BlockSize.toNat]; omega
  | bs256 => simp only [Params.bs, hbs, BlockSize.toNat]; omega

theorem field_exact (r k b : Nat) : field .exact r k b = contigField r k b := by
  unfold field
  split_ifs with hb
  · rw [hb]
    rfl
  · rfl

/-- Two packed regions that hold the same fields unpack to the same gaps. -/
theorem State.gaps_of_sameBase (hparams : t.params = s.params) (hmode : s.params.contigMode = .exact)
    (hbase : s.sameBase t x y b) (hg : s.gaps x s.params.bs b true = .ok g)
    (hg' : t.gaps y s.params.bs b false = .ok g') : g = g' := by
  obtain ⟨r, hr, rfl⟩ := (s.gaps_ok _ _ _ _ _).1 hg
  obtain ⟨r', hr', rfl⟩ := (t.gaps_ok _ _ _ _ _).1 hg'
  have hfields := hbase r r' hr hr'
  rw [unpackFields, unpackFields, if_pos rfl, if_neg (by decide), hparams, hmode]
  refine List.map_congr_left fun k hk => ?_
  rw [hfields k (List.mem_range.1 hk), field_exact]

/-- Equal bytes make equal regions. -/
theorem State.region_congr {n r r' : Nat} (hbytes : ∀ k, k < n → s.ibuf.read (x + k) = t.ibuf.read (y + k))
    (hr : s.region x n = .ok r) (hr' : t.region y n = .ok r') : r = r' := by
  obtain ⟨xs, hlen, hread, hnum⟩ := (s.region_ok _ _ _).1 hr
  have hcopy : t.region y n = .ok r := (t.region_ok _ _ _).2 ⟨xs, hlen, fun k hk => hbytes k hk ▸ hread k hk, hnum⟩
  exact Except.ok.inj (hcopy.symm.trans hr')

theorem State.gaps_congr {n : Nat} (hparams : t.params = s.params)
    (hbytes : ∀ k, k < ceilDiv (n * b) 8 → s.ibuf.read (x + k) = t.ibuf.read (y + k))
    (hg : s.gaps x n b false = .ok g) (hg' : t.gaps y n b false = .ok g') : g = g' := by
  obtain ⟨r, hr, rfl⟩ := (s.gaps_ok _ _ _ _ _).1 hg
  obtain ⟨r', hr', rfl⟩ := (t.gaps_ok _ _ _ _ _).1 hg'
  rw [State.region_congr hbytes hr hr', hparams]

/-! ### The three types with two flavours -/

variable {a a' e e' : Nat}

theorem State.forGaps_flavours (hparams : t.params = s.params) (hmode : s.params.contigMode = .exact)
    (hbase : s.sameBase t (a + 1) (a' + 1) b) (hs : s.forGaps a s.params.bs b true = .ok (g, e))
    (ht : t.forGaps a' s.params.bs b false = .ok (g', e')) : g = g' ∧ e - a = e' - a' := by
  obtain ⟨-, hg, rfl⟩ := (s.forGaps_ok _ _ _ _ _ _).1 hs
  obtain ⟨-, hg', rfl⟩ := (t.forGaps_ok _ _ _ _ _ _).1 ht
  refine ⟨State.gaps_of_sameBase hparams hmode hbase hg hg', ?_⟩
  have hsize : packedSize t.params.bs s.params.bs b false = packedSize s.params.bs s.params.bs b true :=
    Params.ceilDiv_full _ _
  omega

theorem State.pforBitmapGaps_flavours (hparams : t.params = s.params) (hmode : s.params.contigMode = .exact)
    (hbase : s.sameBase t (e - s.params.bs * b / 8) (e' - ceilDiv (s.params.bs * b) 8) b)
    (hbytes : ∀ k, 1 ≤ k → k < e - a - s.params.bs * b / 8 → s.ibuf.read (a + k) = t.ibuf.read (a' + k))
    (hs : s.pforBitmapGaps a s.params.bs b true = .ok (g, e))
    (ht : t.pforBitmapGaps a' s.params.bs b false = .ok (g', e')) : g = g' ∧ e - a = e' - a' := by
  obtain ⟨-, hs⟩ := State.need_bind_eq_ok.1 hs
  obtain ⟨E, hE, hs⟩ := State.byte_bind_eq_ok.1 hs
  obtain ⟨-, hs⟩ := ite_raise_eq_ok.1 hs
  obtain ⟨-, ht⟩ := State.need_bind_eq_ok.1 ht
  obtain ⟨E', hE', ht⟩ := State.byte_bind_eq_ok.1 ht
  obtain ⟨-, ht⟩ := ite_raise_eq_ok.1 ht
  obtain ⟨nbm, bm, pos, ne, nb, base, hi, hnbm, -, hbm, hpos, -, hne, -, hnb, -, hg, hexc, rfl, rfl⟩ :=
    (s.pforBitmapBody_ok _ _ _ _ _ _ _).1 hs
  obtain ⟨nbm', bm', pos', ne', nb', base', hi', hnbm', -, hbm', hpos', -, hne', -, hnb', -, hg', hexc', rfl, rfl⟩ :=
    (t.pforBitmapBody_ok _ _ _ _ _ _ _).1 ht
  have hsize : nb = s.params.bs * b / 8 := hnb
  have hsize' : nb' = ceilDiv (s.params.bs * b) 8 := hnb'
  have hsame := Params.ceilDiv_full s.params b
  rw [← hsize] at hbytes
  have hcopy (i k : Nat) (hi : 1 ≤ i) (hk : i + k < 2 + nbm + ne) :
      s.ibuf.read (a + i + k) = t.ibuf.read (a' + i + k) := by
    rw [Nat.add_assoc, Nat.add_assoc]
    exact hbytes (i + k) (by omega) (by omega)
  obtain rfl : E = E' := Option.some.inj (hE.symm.trans ((hcopy 1 0 le_rfl (by omega)).trans hE'))
  have hmaps : nbm' = nbm := by
    rw [hnbm, hnbm', if_pos rfl, if_neg (by decide)]
    exact (congrArg (ceilDiv · 8) (Nat.mul_one s.params.bs)).symm.trans
      ((Params.ceilDiv_full s.params 1).trans (congrArg (· / 8) (Nat.mul_one s.params.bs)))
  rw [hmaps] at hbm'
  obtain rfl : bm = bm' := State.region_congr (fun k hk => hcopy 2 k (by decide) (by omega)) hbm hbm'
  obtain rfl : pos = pos' := hpos.trans hpos'.symm
  obtain rfl : ne = ne' := hne.trans hne'.symm
  rw [hmaps] at hexc' hg' hbase ⊢
  obtain rfl : hi = hi' := State.gaps_congr hparams (fun k hk => by
    rw [Nat.add_assoc a, Nat.add_assoc a']
    exact hcopy (2 + nbm) k (by omega) (by omega)) hexc hexc'
  rw [← hsize, ← hsize', Nat.add_sub_cancel, Nat.add_sub_cancel] at hbase
  obtain rfl : base = base' := State.gaps_of_sameBase hparams hmode hbase hg hg'
  exact ⟨rfl, by omega⟩

theorem State.pforVbGaps_flavours (hparams : t.params = s.params) (hmode : s.params.contigMode = .exact)
    (hbase : s.sameBase t (a + 2) (a' + 2) b) (hend : s.inLen.toNat + a' = t.inLen.toNat + a)
    (hbytes : ∀ k, k = 1 ∨ 2 + s.params.bs * b / 8 ≤ k → s.ibuf.read (a + k) = t.ibuf.read (a' + k))
    (hs : s.pforVbGaps a s.params.bs b true = .ok (g, e))
    (ht : t.pforVbGaps a' s.params.bs b false = .ok (g', e')) : g = g' ∧ e - a = e' - a' := by
  obtain ⟨-, hs⟩ := State.need_bind_eq_ok.1 hs
  obtain ⟨n, hn, hs⟩ := State.byte_bind_eq_ok.1 hs
  obtain ⟨⟨g0, e0⟩, hbase0, hs⟩ := (Res.bind_eq_ok _ _ _).1 hs
  obtain ⟨-, ht⟩ := State.need_bind_eq_ok.1 ht
  obtain ⟨n', hn', ht⟩ := State.byte_bind_eq_ok.1 ht
  obtain ⟨⟨g0', e0'⟩, hbase0', ht⟩ := (Res.bind_eq_ok _ _ _).1 ht
  obtain rfl : n = n' := Option.some.inj (hn.symm.trans ((hbytes 1 (.inl rfl)).trans hn'))
  obtain ⟨-, -, hg, rfl⟩ := (s.pforVbBase_ok _ _ _ _ _ _ _).1 hbase0
  obtain ⟨-, -, hg', rfl⟩ := (t.pforVbBase_ok _ _ _ _ _ _ _).1 hbase0'
  obtain rfl := State.gaps_of_sameBase hparams hmode hbase hg hg'
  have hsize : packedSize t.params.bs s.params.bs b false = packedSize s.params.bs s.params.bs b true :=
    Params.ceilDiv_full _ _
  rw [hsize] at ht
  have hsame : packedSize s.params.bs s.params.bs b true = s.params.bs * b / 8 := rfl
  have hshift : s.ShiftedStream t (a + 2 + packedSize s.params.bs s.params.bs b true)
      (a' + 2 + packedSize s.params.bs s.params.bs b true) := by
    refine ⟨hparams, by omega, fun k => ?_⟩
    rw [Nat.add_assoc, Nat.add_assoc, Nat.add_assoc, Nat.add_assoc, hsame]
    exact hbytes _ (.inr (by omega))
  obtain ⟨⟨g1, e1⟩, hresult, hg1, k, hk, hk'⟩ := hshift.exceptions _ b n.toNat g0 (g, e) hs
  cases hresult.symm.trans ht
  dsimp only at hg1 hk hk'
  exact ⟨hg1, by omega⟩

end Flavours

/-- Settles O39. -/
theorem interleavedEqualsContiguous : Obligations.InterleavedEqualsContiguous := by
  intro s t a a' b g g' e e' hparams hmode _
  exact ⟨State.forGaps_flavours hparams.symm hmode, State.pforBitmapGaps_flavours hparams.symm hmode,
    State.pforVbGaps_flavours hparams.symm hmode⟩

end Sys2Proof.Machine
